-- ==== Sys2Proof/Word.lean ====
section
/-! DEFINITION. The bit vectors the spec names, one abbreviation per stage width (00_scope.md R6, R7). -/

namespace Sys2Proof

/-- A 64-bit block, key operand, or result (R6); `b[63]` is DES bit 1 (R8). -/
abbrev Block := BitVec 64

/-- One 32-bit half of the block state, L or R (R24). -/
abbrev Half := BitVec 32

/-- One 28-bit half of the rotating key state, C or D (R23). -/
abbrev KeyHalf := BitVec 28

/-- One 48-bit subkey (R21). -/
abbrev Subkey := BitVec 48

/-- The RoundKeySet: `keys[i]` is subkey i+1 (R21, R150). -/
abbrev RoundKeySet := Vector Subkey 16

/-- The 9-bit command word `cmd[8:0]` = `op[1:0] ‖ arg[6:0]` (R71). -/
abbrev CmdWord := BitVec 9

end Sys2Proof
end

