-- ==== Sys2Proof/Config.lean ====
section
/-! DEFINITION. The parameters R6 fixes that a definition of the model uses. The spec leaves none of them open
and no value of the machine free, so there is no uninterpreted constant here. -/

namespace Sys2Proof.Config

/-- The only declared operand length, in bits, that lets a Format L command run (R56, R73). -/
def operandBits : Nat := 64

/-- Edges from the accepting edge of a DERIVE to its response: 16 KS steps (R182). -/
def deriveLatency : Nat := 16

/-- Edges from the accepting edge of an ENC or DEC to its response: 16 RND steps and one FIN step (R182). -/
def transformLatency : Nat := 17

end Sys2Proof.Config
end

