-- ==== Sys2Proof/Machine/Bits.lean ====
section
/-! DEFINITION. The bit operations of 00_scope.md: DES bit numbering (R8), PERM (R10), ROL28 (R11),
and the read of one subkey of a key set. -/

namespace Sys2Proof.Machine

/-- `dbit_N(v, i) = v[N - i]`, the DES-numbered bit i, 1 ≤ i ≤ N, bit 1 leftmost (R8). -/
def dbit {n : Nat} (v : BitVec n) (i : Nat) : Bool := v.getLsbD (n - i)

/-- `PERM(T, N, v)`: DES bit i of the result is DES bit T[i] of `v` (R10). -/
def perm {m n : Nat} (table : Vector Nat m) (v : BitVec n) : BitVec m :=
  (BitVec.ofBoolListBE (table.toList.map fun t => dbit v t)).cast (by simp)

/-- `ROL28(x, s) = ((x << s) | (x >> (28 - s))) & 0x0FFFFFFF` on unbounded naturals (R11). -/
def rol28 (x : KeyHalf) (s : Nat) : KeyHalf :=
  BitVec.ofNat 28 (((x.toNat <<< s) ||| (x.toNat >>> (28 - s))) &&& 0x0FFFFFFF)

/-- `keys[i]`, that is subkey i+1 (R21, R150). -/
def subkeyAt (keys : RoundKeySet) (i : Fin 16) : Subkey := keys[i.val]'i.isLt

end Sys2Proof.Machine
end

