-- ==== Sys2Proof/Machine/Feistel.lean ====
section
/-! DEFINITION. The round function F and the round ROUND of 42_feistel_round.md (R135 to R145). -/

namespace Sys2Proof.Machine

/-- Step 1: expansion of the right half to 48 bits (R136). -/
def expand (right : Half) : BitVec 48 := perm expansion right

/-- Group g_(j+1) of the 48-bit value, `x[47 - 6j : 42 - 6j]` for j counted from 0 (R138). -/
def group (x : BitVec 48) (j : Fin 8) : BitVec 6 := x.extractLsb' (42 - 6 * j.val) 6

/-- The row of a group, `b1 ‖ b6` (R139). -/
def sboxRow (g : BitVec 6) : BitVec 2 := g.extractLsb' 5 1 ++ g.extractLsb' 0 1

/-- The column of a group, `b2 ‖ b3 ‖ b4 ‖ b5` (R139). -/
def sboxCol (g : BitVec 6) : BitVec 4 := g.extractLsb' 1 4

/-- `o_(j+1)`: S-box j+1 at the row and column of group j+1 (R140). -/
def substituteGroup (x : BitVec 48) (j : Fin 8) : BitVec 4 :=
  sboxEntry j (sboxRow (group x j)) (sboxCol (group x j))

/-- Step 3: `o_1 ‖ o_2 ‖ … ‖ o_8` (R140). -/
def substitute (x : BitVec 48) : Half :=
  substituteGroup x 0 ++ substituteGroup x 1 ++ substituteGroup x 2 ++ substituteGroup x 3 ++
    substituteGroup x 4 ++ substituteGroup x 5 ++ substituteGroup x 6 ++ substituteGroup x 7

/-- F(right, subkey) (R135 to R142). -/
def feistel (right : Half) (subkey : Subkey) : Half :=
  perm pbox (substitute (expand right ^^^ subkey))

/-- ROUND(L, R, K) = (R, L xor F(R, K)), both from the halves before the round (R143). -/
def feistelRound (lr : Half × Half) (subkey : Subkey) : Half × Half :=
  (lr.2, lr.1 ^^^ feistel lr.2 subkey)

end Sys2Proof.Machine
end

