-- ==== Sys2Proof/Syntax.lean ====
section
/-! DEFINITION. The instruction set: one constructor per row of spec/opcode_table.json. -/

namespace Sys2Proof

/-- A command beat, decoded: the fields of the 9-bit command word and the 64-bit operand that travels with it
(R70, R71, R72). `len` is the declared operand length in bits, an unsigned integer 0..127 (R73). -/
inductive Instr where
  /-- ENC, Format L, op 00: encrypt `block` with the installed key set (R160). -/
  | enc (len : Nat) (block : Block)
  /-- DEC, Format L, op 01: decrypt `block` with the installed key set (R161). -/
  | dec (len : Nat) (block : Block)
  /-- DERIVE, Format L, op 10: derive and install the key set of `key` (R128). -/
  | derive (len : Nat) (key : Block)
  /-- RDK, Format K, op 11: read subkey `idx` (R129). `ignored` is `cmd[6:4]` and `data` is `cmd_data`, both kept so
  that decoding drops no bit; RDK ignores them (R74). -/
  | rdk (ignored : BitVec 3) (idx : Fin 16) (data : Block)
  deriving DecidableEq, Repr

end Sys2Proof
end

