-- ==== Sys2Proof/WellFormed.lean ====
section
/-! DEFINITION. Which instructions the command word can carry: `len` is a 7-bit field, so 0..127 (R73). The fields
of RDK are bounded by their types. -/

namespace Sys2Proof

/-- `i` fits its command word: a Format L `len` is at most 127 (R73). A well-formed `len` other than 64 is still a
command; it is refused with a length error when it is accepted (R78). -/
def Instr.wellFormed : Instr → Bool
  | .enc len _ => decide (len < 128)
  | .dec len _ => decide (len < 128)
  | .derive len _ => decide (len < 128)
  | .rdk _ _ _ => true

/-- `Instr.wellFormed` as a proposition. -/
abbrev Instr.WellFormed (i : Instr) : Prop := i.wellFormed = true

end Sys2Proof
end

