-- ==== Sys2Proof/Decode.lean ====
section
/-! DEFINITION. Command words: the decoder, the encoder and the opcode map (30_encoding.md R70 to R79). -/

namespace Sys2Proof

/-- One beat on the command port: the command word and the operand (R70). -/
structure Beat where
  cmd : CmdWord
  data : Block
  deriving DecidableEq, Repr

/-- `op` = `cmd[8:7]` (R71). -/
def opField (w : CmdWord) : BitVec 2 := w.extractLsb' 7 2

/-- `arg` = `cmd[6:0]` (R71). -/
def argField (w : CmdWord) : BitVec 7 := w.extractLsb' 0 7

/-- `len` = `cmd[6:0]` read as an unsigned integer (R73). -/
def lenField (w : CmdWord) : Nat := (argField w).toNat

/-- `idx` = `cmd[3:0]` read as an unsigned integer (R74). -/
def idxField (w : CmdWord) : Fin 16 := (w.extractLsb' 0 4).toFin

/-- `cmd[6:4]`, which RDK ignores (R74). -/
def ignoredField (w : CmdWord) : BitVec 3 := w.extractLsb' 4 3

/-- The command a beat carries. Every one of the 512 words carries one (R72, R78). -/
def decode (b : Beat) : Instr :=
  if opField b.cmd = 0b00#2 then .enc (lenField b.cmd) b.data
  else if opField b.cmd = 0b01#2 then .dec (lenField b.cmd) b.data
  else if opField b.cmd = 0b10#2 then .derive (lenField b.cmd) b.data
  else .rdk (ignoredField b.cmd) (idxField b.cmd) b.data

/-- Why a number is no command word. -/
inductive DecodeError where
  /-- The number does not fit the nine wires of `cmd` (R71). -/
  | widerThanNineBits
  deriving DecidableEq, Repr

/-- The command whose word is the number `w`, or why there is none. -/
def decodeNumber (w : Nat) (data : Block) : Except DecodeError Instr :=
  if w < 512 then .ok (decode { cmd := BitVec.ofNat 9 w, data := data })
  else .error .widerThanNineBits

/-- The instruction read from a table row's word of `nbits` bits, with the operand `cmd_data` zero. -/
def decodeTableWord (nbits w : Nat) : Option Instr :=
  match decodeNumber (w % 2 ^ nbits) 0#64 with
  | .ok i => some i
  | .error _ => none

/-- A Format L word, `op ‖ len` (R71). -/
def formatL (op : BitVec 2) (len : Nat) : CmdWord := op ++ BitVec.ofNat 7 len

/-- A Format K word, `11 ‖ ignored ‖ idx` (R71). -/
def formatK (ignored : BitVec 3) (idx : Fin 16) : CmdWord := (0b11#2 ++ ignored) ++ BitVec.ofFin (w := 4) idx

/-- The beat that carries `i` (R71, R72). -/
def encode : Instr → Beat
  | .enc len block => { cmd := formatL 0b00#2 len, data := block }
  | .dec len block => { cmd := formatL 0b01#2 len, data := block }
  | .derive len key => { cmd := formatL 0b10#2 len, data := key }
  | .rdk ignored idx data => { cmd := formatK ignored idx, data := data }

/-- A row of the opcode map of R72: the words `w` with `w &&& mask = pattern`. -/
structure OpcodeRow where
  mnemonic : String
  pattern : CmdWord
  mask : CmdWord
  deriving DecidableEq, Repr

/-- The word belongs to the row. -/
def OpcodeRow.covers (row : OpcodeRow) (w : CmdWord) : Bool := w &&& row.mask == row.pattern

/-- The four match/mask pairs of R72. -/
def opcodeRows : List OpcodeRow :=
  [ { mnemonic := "ENC", pattern := 0x000#9, mask := 0x180#9 },
    { mnemonic := "DEC", pattern := 0x080#9, mask := 0x180#9 },
    { mnemonic := "DERIVE", pattern := 0x100#9, mask := 0x180#9 },
    { mnemonic := "RDK", pattern := 0x180#9, mask := 0x180#9 } ]

/-- The mnemonic R72 gives an instruction. -/
def Instr.mnemonic : Instr → String
  | .enc _ _ => "ENC"
  | .dec _ _ => "DEC"
  | .derive _ _ => "DERIVE"
  | .rdk _ _ _ => "RDK"

end Sys2Proof
end

