-- ==== Sys2Proof/Machine/State.lean ====
section
/-! DEFINITION. The state record of 10_state.md R20, its reset value (R35), and the reasons a step can stop. -/

namespace Sys2Proof.Machine

/-- The phase PH (R27). -/
inductive Phase where
  /-- 0b00: no command is in execution and a command can be accepted. -/
  | idle
  /-- 0b01: a key schedule is being derived, one KS step an edge. -/
  | ks
  /-- 0b10: a block transform is in its rounds, one Feistel round an edge. -/
  | rnd
  /-- 0b11: the rounds are done and the next edge writes the result. -/
  | fin
  deriving DecidableEq, Repr

/-- The direction DIR of a transform (R25, R75): ENCRYPT is 0, DECRYPT is 1. -/
inductive Direction where
  | encrypt
  | decrypt
  deriving DecidableEq, Repr

/-- The error kinds of 60_exceptions.md R200. They are responses of the machine, not stops of the model. -/
inductive ErrorKind where
  /-- ENC or DEC accepted with `len` ≠ 64 (R202). -/
  | invalidBlockLength
  /-- DERIVE accepted with `len` ≠ 64 (R203). -/
  | invalidKeyLength
  /-- ENC, DEC or RDK accepted with KVALID = 0 (R204). -/
  | noKey
  deriving DecidableEq, Repr

/-- What RSP_ERR holds (R30, R201). -/
inductive Status where
  | ok
  | error (e : ErrorKind)
  deriving DecidableEq, Repr

/-- The input values sampled at one rising edge (R32). -/
structure EdgeInput where
  rst : Bool
  cmdValid : Bool
  cmd : CmdWord
  cmdData : Block
  deriving DecidableEq, Repr

/-- The state record S of R20, and the model's own `inputs`. -/
structure State where
  /-- RK[0..15] (R21). -/
  rk : RoundKeySet
  /-- KVALID (R22). -/
  kvalid : Bool
  /-- C (R23). -/
  c : KeyHalf
  /-- D (R23). -/
  d : KeyHalf
  /-- L (R24). -/
  l : Half
  /-- R (R24). -/
  r : Half
  /-- DIR (R25). -/
  dir : Direction
  /-- PH (R27). -/
  ph : Phase
  /-- CNT (R28). -/
  cnt : Fin 16
  /-- RSP_VALID (R29). -/
  rspValid : Bool
  /-- RSP_ERR (R30). -/
  rspErr : Status
  /-- RSP_DATA (R31). -/
  rspData : Block
  /-- THE MODEL'S OWN FIELD (DESIGN CHOICE, log 1): the inputs the caller presents at the coming edges, next edge
  first. No hardware register; the spec makes inputs arguments of `step` (R34). -/
  inputs : List EdgeInput
  deriving DecidableEq, Repr

/-- RESET_STATE: every field of S zero, PH = IDLE (R35); no input listed (DESIGN CHOICE, log 1). -/
def State.reset : State where
  rk := Vector.replicate 16 0#48
  kvalid := false
  c := 0#28
  d := 0#28
  l := 0#32
  r := 0#32
  dir := .encrypt
  ph := .idle
  cnt := 0
  rspValid := false
  rspErr := .ok
  rspData := 0#64
  inputs := []

/-- Reasons the machine stops with a fault. There are none: every error of this hardware is a response (R206) and
the step rules are total over the state record (R144, R156, R181), so the type has no constructor. -/
inductive Fault where
  deriving DecidableEq, Repr

/-- Reasons a step has no meaning in the model. -/
inductive Refusal where
  /-- Raised by `exec` alone, for an instruction that has no meaning yet; no arm raises it now. Safe: it stops. -/
  | notModelled (mnemonic : String)
  deriving DecidableEq, Repr

end Sys2Proof.Machine
end

