-- ==== Sys2Proof/Machine/Codec.lean ====
section
/-! DEFINITION. The pure functions TRANSFORM, ENCRYPT and DECRYPT of 43_block_codec.md (R150 to R159). -/

namespace Sys2Proof.Machine

/-- (L0, R0): IP of the block, split into its first and last 32 bits (R151). -/
def initialHalves (block : Block) : Half × Half :=
  let v : BitVec 64 := perm ip block
  (v.extractLsb' 32 32, v.extractLsb' 0 32)

/-- The index in the key set of the subkey of round n+1: n for encryption, 15 - n for decryption (R153). -/
def subkeyIndex (dir : Direction) (n : Fin 16) : Fin 16 :=
  match dir with
  | .encrypt => n
  | .decrypt => 15 - n

/-- (Ln, Rn): `n` rounds from `lr`, n in 0..16 (R152, R153). -/
def halvesAfter (keys : RoundKeySet) (dir : Direction) (lr : Half × Half) : Nat → Half × Half
  | 0 => lr
  | n + 1 =>
    feistelRound (halvesAfter keys dir lr n) (subkeyAt keys (subkeyIndex dir (Fin.ofNat 16 n)))

/-- FP of R‖L, the right half first (R154). -/
def finalBlock (lr : Half × Half) : Block := perm (n := 64) fp (lr.2 ++ lr.1)

/-- TRANSFORM(block, keys, dir) (R150, R155). -/
def transform (block : Block) (keys : RoundKeySet) (dir : Direction) : Block :=
  finalBlock (halvesAfter keys dir (initialHalves block) 16)

/-- ENCRYPT (R150). -/
def encrypt (block : Block) (keys : RoundKeySet) : Block := transform block keys .encrypt

/-- DECRYPT (R150). -/
def decrypt (block : Block) (keys : RoundKeySet) : Block := transform block keys .decrypt

end Sys2Proof.Machine
end

