-- ==== Sys2Proof/Machine/KeySchedule.lean ====
section
/-! DEFINITION. The pure function KS of 41_key_schedule.md (R120 to R127). -/

namespace Sys2Proof.Machine

/-- SHIFT[n + 1], the rotation of the round the counter value n names (R93). -/
def shiftAmount (n : Fin 16) : Nat := shiftSchedule[n.val]'n.isLt

/-- (C0, D0): PC-1 of the key, split into its first and last 28 bits (R121). -/
def initialKeyHalves (key : Block) : KeyHalf × KeyHalf :=
  let cd : BitVec 56 := perm pc1 key
  (cd.extractLsb' 28 28, cd.extractLsb' 0 28)

/-- One cumulative rotation of both halves, each within its own 28 bits (R122). -/
def rotateKeyHalves (n : Fin 16) (cd : KeyHalf × KeyHalf) : KeyHalf × KeyHalf :=
  (rol28 cd.1 (shiftAmount n), rol28 cd.2 (shiftAmount n))

/-- PC-2 of C‖D (R123). -/
def selectSubkey (cd : KeyHalf × KeyHalf) : Subkey := perm (n := 56) pc2 (cd.1 ++ cd.2)

/-- (Cn, Dn) of a key: `n` rotations from (C0, D0), n in 0..16 (R120, R122). -/
def keyHalves (key : Block) : Nat → KeyHalf × KeyHalf
  | 0 => initialKeyHalves key
  | n + 1 => rotateKeyHalves (Fin.ofNat 16 n) (keyHalves key n)

/-- KS(key): entry i is K(i+1), taken after the rotation of round i+1 (R120, R123). -/
def keySchedule (key : Block) : RoundKeySet :=
  Vector.ofFn fun i : Fin 16 => selectSubkey (keyHalves key (i.val + 1))

end Sys2Proof.Machine
end

