-- ==== Sys2Proof/Machine/Operands.lean ====
section
/-! DEFINITION. Operands and results at the port: the length rule (R56), byte order (R52, R53), the presentation of
a subkey (R54). -/

namespace Sys2Proof.Machine

/-- The declared length is the one an operand must have (R56). -/
def lengthOk (len : Nat) : Bool := len == Config.operandBits

/-- `zext_64(subkey)`, what RDK puts into RSP_DATA (R54). -/
def presentSubkey (k : Subkey) : Block := k.zeroExtend 64

/-- The operand made of the caller's bytes b0..b7 in input order (R52). -/
def blockOfBytes (b : Vector (BitVec 8) 8) : Block :=
  b[0] ++ b[1] ++ b[2] ++ b[3] ++ b[4] ++ b[5] ++ b[6] ++ b[7]

/-- The bytes of a result in output order: byte i is `rsp_data[63 - 8i : 56 - 8i]` (R53). -/
def bytesOfBlock (v : Block) : Vector (BitVec 8) 8 :=
  Vector.ofFn fun i : Fin 8 => v.extractLsb' (56 - 8 * i.val) 8

end Sys2Proof.Machine
end

