-- ==== Sys2Proof/Machine/Ops.lean ====
section
/-! DEFINITION. The named operations over the state: register reads and writes, the response registers with
`raise` and `respond_ok` (60_exceptions.md R206, R207), the sequencer's move, and the reset edge. -/

namespace Sys2Proof.Machine

/-- RK[i] (R21). -/
def State.subkey (s : State) (i : Fin 16) : Subkey := subkeyAt s.rk i

/-- `RK[i] <- k` (R21). -/
def State.setSubkey (s : State) (i : Fin 16) (k : Subkey) : State := { s with rk := s.rk.set i.val k i.isLt }

/-- `C <- cd.1 ; D <- cd.2` (R23). -/
def State.setKeyHalves (s : State) (cd : KeyHalf × KeyHalf) : State := { s with c := cd.1, d := cd.2 }

/-- (C, D) (R23). -/
def State.keyPair (s : State) : KeyHalf × KeyHalf := (s.c, s.d)

/-- `L <- lr.1 ; R <- lr.2` (R24). -/
def State.setHalves (s : State) (lr : Half × Half) : State := { s with l := lr.1, r := lr.2 }

/-- (L, R) (R24). -/
def State.halves (s : State) : Half × Half := (s.l, s.r)

/-- `DIR <- dir` (R25). -/
def State.setDir (s : State) (dir : Direction) : State := { s with dir := dir }

/-- `KVALID <- b` (R22). -/
def State.setKvalid (s : State) (b : Bool) : State := { s with kvalid := b }

/-- `PH <- ph ; CNT <- cnt`, the move of the sequencer (R13, R27, R28). -/
def State.goto (s : State) (ph : Phase) (cnt : Fin 16) : State := { s with ph := ph, cnt := cnt }

/-- The clearing of the response registers at every acceptance (R173): the counterpart of the return from an
error, which stays visible until here (R210). -/
def State.clearResponse (s : State) : State := { s with rspValid := false, rspErr := .ok, rspData := 0#64 }

/-- `raise e`: the error response, this hardware's exception entry (R206). Nothing else is written. -/
def State.raise (s : State) (e : ErrorKind) : State :=
  { s with rspValid := true, rspErr := .error e, rspData := 0#64 }

/-- `respond_ok(d)` (R207). -/
def State.respondOk (s : State) (d : Block) : State := { s with rspValid := true, rspErr := .ok, rspData := d }

/-- `RSP_VALID <- 1` alone, as the last KS step does it: RSP_ERR and RSP_DATA were written at acceptance (R177). -/
def State.markResponse (s : State) : State := { s with rspValid := true }

/-- `RSP_DATA <- d`, as the FIN step does it (R179). -/
def State.setRspData (s : State) (d : Block) : State := { s with rspData := d }

/-- What an edge with `rst` = 1 leaves: RESET_STATE (R231). The inputs still to come are the caller's. -/
def State.resetEdge (s : State) : State := { State.reset with inputs := s.inputs }

end Sys2Proof.Machine
end

