-- ==== Sys2Proof/Machine/Keys.lean ====
section
/-! DEFINITION. DERIVE and RDK at their accepting edge (44_sequencer.md R173, R175, R176). -/

namespace Sys2Proof.Machine

/-- `accept_derive`: the length check, then the key load, which invalidates the installed set (R175). -/
def acceptDerive (len : Nat) (key : Block) (s : State) : State :=
  if lengthOk len = false then s.clearResponse.raise .invalidKeyLength
  else ((s.clearResponse.setKeyHalves (initialKeyHalves key)).setKvalid false).goto .ks 0

/-- `accept_rdk`: the key check, then the subkey (R176). -/
def acceptRdk (idx : Fin 16) (s : State) : State :=
  if s.kvalid = false then s.clearResponse.raise .noKey
  else s.clearResponse.respondOk (presentSubkey (s.subkey idx))

/-- DERIVE accepted (R128, R175). -/
def execDerive (len : Nat) (key : Block) (s : State) : Host.Outcome State Fault Refusal :=
  .next (acceptDerive len key s)

/-- RDK accepted (R129, R176); the ignored bits and the operand are not looked at (R74). -/
def execRdk (_ignored : BitVec 3) (idx : Fin 16) (_data : Block) (s : State) :
    Host.Outcome State Fault Refusal :=
  .next (acceptRdk idx s)

end Sys2Proof.Machine
end

