-- ==== Sys2Proof/Machine/Transforms.lean ====
section
/-! DEFINITION. ENC and DEC at their accepting edge (44_sequencer.md R173, R174). -/

namespace Sys2Proof.Machine

/-- `accept_xform`: the length check, then the key check, then the block load (R174, R208). -/
def acceptTransform (dir : Direction) (len : Nat) (block : Block) (s : State) : State :=
  if lengthOk len = false then s.clearResponse.raise .invalidBlockLength
  else if s.kvalid = false then s.clearResponse.raise .noKey
  else ((s.clearResponse.setHalves (initialHalves block)).setDir dir).goto .rnd 0

/-- ENC accepted (R160, R174). -/
def execEnc (len : Nat) (block : Block) (s : State) : Host.Outcome State Fault Refusal :=
  .next (acceptTransform .encrypt len block s)

/-- DEC accepted (R161, R174). -/
def execDec (len : Nat) (block : Block) (s : State) : Host.Outcome State Fault Refusal :=
  .next (acceptTransform .decrypt len block s)

end Sys2Proof.Machine
end

