-- ==== Sys2Proof/Machine/Dispatch.lean ====
section
/-! DEFINITION. The dispatch of an accepted command (44_sequencer.md R173), one arm per constructor. -/

namespace Sys2Proof.Machine

def exec (i : Instr) (s : State) : Host.Outcome State Fault Refusal :=
  match i with
  | .enc len block => Sys2Proof.Machine.execEnc len block s
  | .dec len block => Sys2Proof.Machine.execDec len block s
  | .derive len key => Sys2Proof.Machine.execDerive len key s
  | .rdk ignored idx data => Sys2Proof.Machine.execRdk ignored idx data s

end Sys2Proof.Machine
end

