-- ==== Sys2Proof/Machine/Sequencer.lean ====
section
/-! DEFINITION. The steps of a command in execution (44_sequencer.md R177, R178, R179) and the latencies (R182). -/

namespace Sys2Proof.Machine

/-- The KS step: one round of the key schedule (R177). -/
def ksStep (s : State) : State :=
  let cd := rotateKeyHalves s.cnt s.keyPair
  let t := (s.setKeyHalves cd).setSubkey s.cnt (selectSubkey cd)
  if s.cnt = 15 then ((t.goto .idle 0).setKvalid true).markResponse
  else t.goto .ks (s.cnt + 1)

/-- The RND step: one Feistel round (R178). -/
def rndStep (s : State) : State :=
  let t := s.setHalves (feistelRound s.halves (s.subkey (subkeyIndex s.dir s.cnt)))
  if s.cnt = 15 then t.goto .fin 0 else t.goto .rnd (s.cnt + 1)

/-- The FIN step: swap, FP, response (R179). CNT is not written; it is already 0 in every reachable state (R36). -/
def finStep (s : State) : State :=
  ((s.setRspData (finalBlock s.halves)).markResponse).goto .idle s.cnt

/-- Edges from the accepting edge to the response, by command and outcome (R182, R183). -/
def latency (i : Instr) (s : State) : Nat :=
  match i with
  | .enc len _ => if lengthOk len && s.kvalid then Config.transformLatency else 0
  | .dec len _ => if lengthOk len && s.kvalid then Config.transformLatency else 0
  | .derive len _ => if lengthOk len then Config.deriveLatency else 0
  | .rdk _ _ _ => 0

end Sys2Proof.Machine
end

