-- ==== Sys2Proof/Machine/Edge.lean ====
section
/-! DEFINITION. One rising edge of the clock (44_sequencer.md R170 to R172, R180, R185): `step(S, in)` of the spec, and
how the model takes `in` from the caller's list. -/

namespace Sys2Proof.Machine

/-- An edge at which the caller presents nothing and does not reset: the no-operation (R78). -/
def EdgeInput.quiet : EdgeInput := { rst := false, cmdValid := false, cmd := 0#9, cmdData := 0#64 }

/-- An edge at which the caller presents a beat (R70). -/
def EdgeInput.present (b : Beat) : EdgeInput := { rst := false, cmdValid := true, cmd := b.cmd, cmdData := b.data }

/-- An edge with `rst` = 1 (R230). -/
def EdgeInput.resetting : EdgeInput := { rst := true, cmdValid := false, cmd := 0#9, cmdData := 0#64 }

/-- The beat on the command port. -/
def EdgeInput.beat (e : EdgeInput) : Beat := { cmd := e.cmd, data := e.cmdData }

/-- The inputs of the next edge. Past the end of the caller's list the edge is quiet (DESIGN CHOICE, log 2). -/
def State.sampled (s : State) : EdgeInput := s.inputs.headD EdgeInput.quiet

/-- The state once the next edge's inputs are sampled: they do not come again (log 1). -/
def State.consumeInput (s : State) : State := { s with inputs := s.inputs.tail }

/-- A command is accepted at an edge exactly if `rst` = 0, PH = IDLE and `cmd_valid` = 1 (R172). -/
def accepts (e : EdgeInput) (s : State) : Bool := !e.rst && decide (s.ph = .idle) && e.cmdValid

/-- `step(S, in)` of R171: reset first, then the phase. The list of coming inputs is carried along. -/
def edge (e : EdgeInput) (s : State) : Host.Outcome State Fault Refusal :=
  if e.rst then .next s.resetEdge
  else
    match s.ph with
    | .idle => if e.cmdValid then exec (decode e.beat) s else .next s
    | .ks => .next (ksStep s)
    | .rnd => .next (rndStep s)
    | .fin => .next (finStep s)

/-- `s` with the beat `b` presented at its next edge and the sequencer ready to accept it (log 6). -/
def State.presentNext (s : State) (b : Beat) : State :=
  { s with ph := .idle, inputs := EdgeInput.present b :: s.inputs.tail }

/-- The beat of a table row's word of `nbits` bits: the operand, which the table gives no bits, is zero (log 7). -/
def tableBeat (nbits w : Nat) : Beat := { cmd := BitVec.ofNat 9 (w % 2 ^ nbits), data := 0#64 }

end Sys2Proof.Machine
end

