-- ==== Sys2Proof/Machine/Step.lean ====
section
/-! DEFINITION. The step: one rising edge with the inputs at the head of the caller's list (44_sequencer.md R170). -/

namespace Sys2Proof.Machine

/-- One rising edge of `clk` (R170, R171). -/
def step (s : State) : Host.Outcome State Fault Refusal := edge s.sampled s.consumeInput

/-- `s` with a table row's word presented on the command port at the next edge (log 6, log 7). -/
def State.withFetchWord (s : State) (nbits w : Nat) : State := s.presentNext (tableBeat nbits w)

end Sys2Proof.Machine
end

