-- ==== Sys2Proof/Machine/TableFacts.lean ====
section
/-! DEFINITION. The facts of 40_tables.md R108, item by item, as properties of the model's tables. -/

namespace Sys2Proof.Machine

/-- Every entry of the table is an integer in 1..n. -/
abbrev EntriesIn {m : Nat} (table : Vector Nat m) (n : Nat) : Prop := ∀ t ∈ table.toList, 1 ≤ t ∧ t ≤ n

/-- Every integer in 1..n is an entry of the table. -/
abbrev Covers {m : Nat} (table : Vector Nat m) (n : Nat) : Prop := ∀ t : Fin n, t.val + 1 ∈ table.toList

/-- The table is a permutation of 1..n. -/
abbrev IsPermutation {n : Nat} (table : Vector Nat n) : Prop := EntriesIn table n ∧ table.toList.Nodup

/-- The table repeats no entry, and of 1..n it omits exactly the positions listed. -/
abbrev OmitsExactly {m : Nat} (table : Vector Nat m) (n : Nat) (omitted : List Nat) : Prop :=
  table.toList.Nodup ∧ ∀ t : Fin n, t.val + 1 ∈ table.toList ↔ t.val + 1 ∉ omitted

/-- The input positions (counted from 0) that the table duplicates. -/
def duplicated {m : Nat} (table : Vector Nat m) (n : Nat) : List Nat :=
  (List.range n).filter fun t => table.toList.count (t + 1) == 2

/-- R108, one field an item. The numbers of entries are in the types. -/
structure TableFacts : Prop where
  /-- Item 1. -/
  sizes : EntriesIn pc1 64 ∧ EntriesIn pc2 56 ∧ IsPermutation ip ∧ IsPermutation fp ∧
    EntriesIn expansion 32 ∧ Covers expansion 32 ∧ IsPermutation pbox
  /-- Item 2: `FP[IP[i]] = IP[FP[i]] = i`. -/
  finalInvertsInitial : ∀ i : Fin 64,
    fp.toList[(ip[i.val]'i.isLt) - 1]? = some (i.val + 1) ∧ ip.toList[(fp[i.val]'i.isLt) - 1]? = some (i.val + 1)
  /-- Item 3. -/
  expansionDuplicates : (duplicated expansion 32).length = 16
  /-- Item 4. -/
  shifts : ∀ n : Fin 16, shiftAmount n = 1 ∨ shiftAmount n = 2
  /-- Item 5. -/
  sboxRange : ∀ (j : Fin 8) (row : BitVec 2) (col : BitVec 4), (sboxEntry j row col).toNat ≤ 15
  /-- Item 6: the multiples of 8. -/
  pc1Omits : OmitsExactly pc1 64 [8, 16, 24, 32, 40, 48, 56, 64]
  /-- Item 7. -/
  pc2Omits : OmitsExactly pc2 56 [9, 18, 22, 25, 35, 38, 43, 54]
  /-- Item 8: the sum, and the full turn of both halves. -/
  shiftTotal : shiftSchedule.toList.sum = 28 ∧ ∀ key, keyHalves key 16 = initialKeyHalves key
  /-- Item 9. -/
  sboxRows : ∀ (j : Fin 8) (row : BitVec 2), Function.Bijective (sboxEntry j row)
  /-- Item 10, the bijections. -/
  bijections : Function.Bijective (fun v : Block => (perm ip v : Block)) ∧
    Function.Bijective (fun v : Block => (perm fp v : Block)) ∧ Function.Bijective (fun v : Half => (perm pbox v : Half))
  /-- Item 10, the expansion. -/
  expansionInjective : Function.Injective fun v : Half => (perm expansion v : BitVec 48)
  /-- Item 10, the selections: neither injective nor, therefore, bijective. -/
  selectionsDropBits : ¬ Function.Injective (fun v : Block => (perm pc1 v : BitVec 56)) ∧
    ¬ Function.Injective (fun v : BitVec 56 => (perm pc2 v : Subkey))

end Sys2Proof.Machine
end

