-- ==== Sys2Proof/Machine/Flags.lean ====
section
/-! DEFINITION. The status bits: their codes and the Moore outputs that show them (R26, R33). There is no
arithmetic flag in this hardware (R26). -/

namespace Sys2Proof.Machine

/-- The 2-bit code of PH (R27). -/
def Phase.code : Phase → BitVec 2
  | .idle => 0b00#2
  | .ks => 0b01#2
  | .rnd => 0b10#2
  | .fin => 0b11#2

/-- The bit DIR holds (R25). -/
def Direction.bit : Direction → BitVec 1
  | .encrypt => 0#1
  | .decrypt => 1#1

/-- The 2-bit code of an error (R201). -/
def ErrorKind.code : ErrorKind → BitVec 2
  | .invalidBlockLength => 0b01#2
  | .invalidKeyLength => 0b10#2
  | .noKey => 0b11#2

/-- The 2-bit code in RSP_ERR (R201). -/
def Status.code : Status → BitVec 2
  | .ok => 0b00#2
  | .error e => e.code

/-- The output ports (R33). -/
structure Outputs where
  cmdReady : Bool
  busy : Bool
  keyValid : Bool
  rspValid : Bool
  rspErr : BitVec 2
  rspData : Block
  deriving DecidableEq, Repr

/-- The outputs, functions of the state alone (R33). -/
def outputs (s : State) : Outputs where
  cmdReady := decide (s.ph = .idle)
  busy := decide (s.ph ≠ .idle)
  keyValid := s.kvalid
  rspValid := s.rspValid
  rspErr := s.rspErr.code
  rspData := s.rspData

end Sys2Proof.Machine
end

