-- ==== Sys2Proof/Machine/Commands.lean ====
section
/-! DEFINITION. The command level (00_scope.md R14 b): the whole effect of each command as one transition from a state
with PH = IDLE and CNT = 0 (R128, R129, R160, R161). `step` does not use these; R186 says the two levels agree. -/

namespace Sys2Proof.Machine

/-- ENC and DEC as one transition (R160, R161). L, R and DIR keep the residue of the transform (R37). -/
def commandTransform (dir : Direction) (len : Nat) (block : Block) (s : State) : State :=
  if lengthOk len = false then s.raise .invalidBlockLength
  else if s.kvalid = false then s.raise .noKey
  else
    ((s.setHalves (halvesAfter s.rk dir (initialHalves block) 16)).setDir dir).respondOk
      (transform block s.rk dir)

/-- DERIVE as one transition (R128). C and D keep C16 and D16 (R37). -/
def commandDerive (len : Nat) (key : Block) (s : State) : State :=
  if lengthOk len = false then s.raise .invalidKeyLength
  else
    let t : State := { s with rk := keySchedule key }
    ((t.setKvalid true).setKeyHalves (keyHalves key 16)).respondOk 0#64

/-- RDK as one transition (R129). -/
def commandRdk (idx : Fin 16) (s : State) : State :=
  if s.kvalid = false then s.raise .noKey else s.respondOk (presentSubkey (s.subkey idx))

/-- The whole effect of a command (R14 b). -/
def command (i : Instr) (s : State) : State :=
  match i with
  | .enc len block => commandTransform .encrypt len block s
  | .dec len block => commandTransform .decrypt len block s
  | .derive len key => commandDerive len key s
  | .rdk _ idx _ => commandRdk idx s

end Sys2Proof.Machine
end

