-- ==== Sys2Proof/Machine/Script.lean ====
section
/-! DEFINITION. The command script of 30_encoding.md R80 and the pseudo-commands of R81, as data: what a caller that
follows the handshake presents, and what each line does at command level. The text form is not modelled (log 12). -/

namespace Sys2Proof.Machine

/-- One line of a script (R80). -/
inductive Line where
  /-- A command, presented while `cmd_ready` = 1 and waited for. -/
  | command (i : Instr)
  /-- RESET: one edge with `rst` = 1, no command word. -/
  | reset
  deriving DecidableEq, Repr

/-- `DERIVE <key16> [len=<n>]`; `len` is 64 when it is omitted (R80). -/
def Line.derive (key : Block) (len : Nat := 64) : Line := .command (.derive len key)

/-- `ENC <block16> [len=<n>]` (R80). -/
def Line.enc (block : Block) (len : Nat := 64) : Line := .command (.enc len block)

/-- `DEC <block16> [len=<n>]` (R80). -/
def Line.dec (block : Block) (len : Nat := 64) : Line := .command (.dec len block)

/-- `RDK <idx>`: the ignored bits and the operand are driven 0 (R80). -/
def Line.rdk (idx : Fin 16) : Line := .command (.rdk 0#3 idx 0#64)

/-- The edges a line takes from a ready state: the beat, then quiet edges until the response is visible (R80, R182). -/
def Line.edges (line : Line) (s : State) : List EdgeInput :=
  match line with
  | .command i => EdgeInput.present (encode i) :: List.replicate (latency i s) EdgeInput.quiet
  | .reset => [EdgeInput.resetting]

/-- What a line does at command level. -/
def Line.effect (line : Line) (s : State) : State :=
  match line with
  | .command i => Sys2Proof.Machine.command i s
  | .reset => s.resetEdge

/-- What a script does at command level, line by line. -/
def runScript (lines : List Line) (s : State) : State := lines.foldl (fun t line => line.effect t) s

/-- `derive_round_keys(key)`: DERIVE, then the sixteen subkeys (R81). -/
def deriveRoundKeys (key : Block) : List Line := Line.derive key :: (List.finRange 16).map Line.rdk

/-- `transform(block, keys, direction)` with the installed key set (R81). -/
def transformScript (block : Block) (dir : Direction) : List Line :=
  match dir with
  | .encrypt => [Line.enc block]
  | .decrypt => [Line.dec block]

end Sys2Proof.Machine
end

