-- ==== Sys2Proof/Safety.lean ====
section
/-! DEFINITION. What claims speak of: runs of several edges, a run that goes on, the invariants of 10_state.md R36, and
what a caller can tell apart (R33, R37). -/

namespace Sys2Proof

open Sys2Proof.Machine

/-- `n` rising edges from `s`, with the inputs `s` lists. -/
def run (n : Nat) (s : State) : Host.Outcome State Fault Refusal := Host.Core.run core n s

/-- The outcome is a next state. -/
def Proceeds (o : Host.Outcome State Fault Refusal) : Prop := ∃ t, o = .next t

/-- Every input of the list has `rst` = 0. -/
def NoReset (ins : List EdgeInput) : Prop := ∀ e ∈ ins, e.rst = false

/-- The items of R36 that speak of the sequencer and the response registers: 1, 2, 3, 5 and 6. -/
structure ControlInv (s : State) : Prop where
  cntZero : s.ph = .idle ∨ s.ph = .fin → s.cnt = 0
  inKs : s.ph = .ks → s.kvalid = false ∧ s.rspValid = false
  inTransform : s.ph = .rnd ∨ s.ph = .fin →
    s.kvalid = true ∧ s.rspValid = false ∧ s.rspErr = .ok ∧ s.rspData = 0#64
  noResponse : s.rspValid = false → s.rspErr = .ok ∧ s.rspData = 0#64
  errorShown : s.rspErr ≠ .ok → s.rspValid = true ∧ s.rspData = 0#64

/-- What R36 calls the key of the last DERIVE and the transform in progress: the key operand of the last DERIVE accepted
with `len` = 64, and the operand and direction of the last ENC or DEC accepted without error. No part of the state: a
claim carries it beside the state (R34). -/
structure Work where
  key : Block
  block : Block
  dir : Direction
  deriving DecidableEq, Repr

/-- The work after the next edge of `s`: an accepted command without error is the new work (R172, R174, R175). -/
def Work.next (w : Work) (s : State) : Work :=
  if accepts s.sampled s then
    match decode s.sampled.beat with
    | .enc len block => if len = 64 ∧ s.kvalid = true then { w with block := block, dir := .encrypt } else w
    | .dec len block => if len = 64 ∧ s.kvalid = true then { w with block := block, dir := .decrypt } else w
    | .derive len key => if len = 64 then { w with key := key } else w
    | .rdk _ _ _ => w
  else w

/-- The items of R36 that speak of the keys and the halves, for the work `w`: 4, 7 and 8, and what R179 says of FIN. -/
structure DataInv (w : Work) (s : State) : Prop where
  keySet : s.kvalid = true → s.rk = keySchedule w.key
  inKs : s.ph = .ks → s.keyPair = keyHalves w.key s.cnt.val ∧
    ∀ i : Fin 16, i < s.cnt → s.subkey i = selectSubkey (keyHalves w.key (i.val + 1))
  inRnd : s.ph = .rnd → s.dir = w.dir ∧ s.halves = halvesAfter s.rk w.dir (initialHalves w.block) s.cnt.val
  inFin : s.ph = .fin → s.dir = w.dir ∧ s.halves = halvesAfter s.rk w.dir (initialHalves w.block) 16

/-- The invariant of R36, for the work `w`. -/
structure Inv (w : Work) (s : State) : Prop where
  control : ControlInv s
  data : DataInv w s

/-- Two ready states that a caller cannot tell apart: they differ at most in C, D, L, R, DIR, CNT, and in RK while no
key set is installed (R22, R37). -/
structure SameToCaller (s t : State) : Prop where
  readyLeft : s.ph = .idle
  readyRight : t.ph = .idle
  kvalid : s.kvalid = t.kvalid
  rk : s.kvalid = true → s.rk = t.rk
  rspValid : s.rspValid = t.rspValid
  rspErr : s.rspErr = t.rspErr
  rspData : s.rspData = t.rspData
  inputs : s.inputs = t.inputs

end Sys2Proof
end

