-- ==== Sys2Proof/Certificates/Slice0/Obligations.lean ====
section
/-! DEFINITION. The statements for the provers, from the numbered rules of spec/. A statement about an edge names the
inputs of that edge through `State.inputs` (log 1). -/

open Sys2Proof Sys2Proof.Machine

/-! ### Command words (30_encoding.md) -/

/-- Decoding the beat that carries a well-formed command gives the command back, whatever its fields (R71 to R74). -/
def Obligations.DecodeOfEncodeIsInstruction : Prop :=
  ∀ i : Instr, i.WellFormed → decode (encode i) = i

/-- Every beat carries a well-formed command, and no bit of the word or the operand is lost (R72, R78). -/
def Obligations.EveryBeatIsACommand : Prop :=
  ∀ b : Beat, (decode b).WellFormed ∧ encode (decode b) = b

/-- The fields of a word by place value: `op` counts 128s and `arg` is the rest, `idx` is the last four bits of `arg`
(R71 to R74). -/
def Obligations.WordFieldsByPlaceValue : Prop :=
  ∀ (w : CmdWord) (x : Block),
    (w.toNat / 128 = 0 → decode { cmd := w, data := x } = .enc (w.toNat % 128) x) ∧
    (w.toNat / 128 = 1 → decode { cmd := w, data := x } = .dec (w.toNat % 128) x) ∧
    (w.toNat / 128 = 2 → decode { cmd := w, data := x } = .derive (w.toNat % 128) x) ∧
    (w.toNat / 128 = 3 → decode { cmd := w, data := x } =
      .rdk (BitVec.ofNat 3 (w.toNat / 16)) (Fin.ofNat 16 w.toNat) x)

/-- The match/mask pairs of the opcode map name exactly the mnemonic the decoder gives (R72). -/
def Obligations.OpcodeMapNamesTheMnemonic : Prop :=
  ∀ b : Beat, ∀ row ∈ opcodeRows, (row.covers b.cmd = true ↔ row.mnemonic = (decode b).mnemonic)

/-- Some of the words V14 lists, decoded. A sanity statement on fixed words. -/
def Obligations.ListedWordsDecode : Prop :=
  decode { cmd := 0b001000000#9, data := 5#64 } = .enc 64 5#64 ∧
  decode { cmd := 0b011000000#9, data := 5#64 } = .dec 64 5#64 ∧
  decode { cmd := 0b101000001#9, data := 5#64 } = .derive 65 5#64 ∧
  decode { cmd := 0b111110101#9, data := 5#64 } = .rdk 0b111#3 5 5#64

/-- A table row's word placed for the next edge is what the next step runs (the model's own placement, log 6, log 7). -/
def Obligations.PlacedTableWordRuns : Prop :=
  ∀ (s : State) (w : Nat), w < 512 →
    decodeTableWord 16 w = some (decode { cmd := BitVec.ofNat 9 w, data := 0#64 }) ∧
    step (s.withFetchWord 16 w) =
      exec (decode { cmd := BitVec.ofNat 9 w, data := 0#64 }) { s with ph := .idle, inputs := s.inputs.tail }

/-! ### One edge (44_sequencer.md, 70_reset_and_hazards.md) -/

/-- At an edge with `rst` = 0, PH = IDLE and `cmd_valid` = 1 the step is the execution of the decoded command, on the
state with that edge's inputs taken off the caller's list (R171, R172, R173; log 1). -/
def Obligations.StepRunsDecodedInstruction : Prop :=
  ∀ (s : State) (e : EdgeInput) (rest : List EdgeInput), s.inputs = e :: rest →
    e.rst = false → s.ph = .idle → e.cmdValid = true →
    step s = exec (decode { cmd := e.cmd, data := e.cmdData }) { s with inputs := rest }

/-- Every edge has a next state: the step rules are total over the state record (R144, R156, R181). -/
def Obligations.EveryEdgeHasANextState : Prop :=
  ∀ s : State, Proceeds (step s)

/-- R35: the reset state, field by field, and its outputs. -/
def Obligations.ResetStateFields : Prop :=
  (∀ i : Fin 16, State.reset.subkey i = 0#48) ∧ State.reset.kvalid = false ∧
  State.reset.c = 0#28 ∧ State.reset.d = 0#28 ∧ State.reset.l = 0#32 ∧ State.reset.r = 0#32 ∧
  State.reset.dir.bit = 0#1 ∧ State.reset.ph.code = 0b00#2 ∧ State.reset.cnt.val = 0 ∧
  State.reset.rspValid = false ∧ State.reset.rspErr.code = 0b00#2 ∧ State.reset.rspData = 0#64 ∧
  outputs State.reset =
    { cmdReady := true, busy := false, keyValid := false, rspValid := false, rspErr := 0#2, rspData := 0#64 }

/-- R231, R232, R233: edges with `rst` = 1, one or more, leave RESET_STATE from any state and any phase, whatever is on
the command port, and the block is then ready. The inputs still to come are the model's own field (log 1). -/
def Obligations.ResetEdgesGiveResetState : Prop :=
  ∀ (s : State) (ins rest : List EdgeInput), s.inputs = ins ++ rest → ins ≠ [] →
    (∀ e ∈ ins, e.rst = true) →
    run ins.length s = .next { State.reset with inputs := rest } ∧
    (outputs { State.reset with inputs := rest }).cmdReady = true

/-- R180: edges with `rst` = 0 and `cmd_valid` = 0 in phase IDLE change nothing, for any number of them. -/
def Obligations.IdleEdgesHoldTheState : Prop :=
  ∀ (s : State) (ins rest : List EdgeInput), s.inputs = ins ++ rest → s.ph = .idle →
    (∀ e ∈ ins, e.rst = false ∧ e.cmdValid = false) →
    run ins.length s = .next { s with inputs := rest }

/-- R177: one KS step. The rotation amount is written out from R93: 1 in rounds 1, 2, 9 and 16 and 2 in the others. -/
def Obligations.KsStepDerivesOneSubkey : Prop :=
  ∀ (s : State) (e : EdgeInput) (rest : List EdgeInput), s.inputs = e :: rest → e.rst = false → s.ph = .ks →
    ∀ (a : Nat), a = (if s.cnt.val ∈ [0, 1, 8, 15] then 1 else 2) →
    (s.cnt.val = 15 → step s = .next { s with
      c := rol28 s.c a, d := rol28 s.d a,
      rk := s.rk.set s.cnt.val (perm (n := 56) pc2 (rol28 s.c a ++ rol28 s.d a)) s.cnt.isLt,
      cnt := 0, ph := .idle, kvalid := true, rspValid := true, inputs := rest }) ∧
    (s.cnt.val < 15 → ∃ n : Fin 16, n.val = s.cnt.val + 1 ∧ step s = .next { s with
      c := rol28 s.c a, d := rol28 s.d a,
      rk := s.rk.set s.cnt.val (perm (n := 56) pc2 (rol28 s.c a ++ rol28 s.d a)) s.cnt.isLt,
      cnt := n, inputs := rest })

/-- R178: one RND step, with the subkey RK[CNT] or RK[15 - CNT] by direction. -/
def Obligations.RndStepIsOneRound : Prop :=
  ∀ (s : State) (e : EdgeInput) (rest : List EdgeInput), s.inputs = e :: rest → e.rst = false → s.ph = .rnd →
    ∀ (i : Fin 16), i.val = (if s.dir = .decrypt then 15 - s.cnt.val else s.cnt.val) →
    (s.cnt.val = 15 → step s = .next { s with
      l := s.r, r := s.l ^^^ feistel s.r (s.subkey i), cnt := 0, ph := .fin, inputs := rest }) ∧
    (s.cnt.val < 15 → ∃ n : Fin 16, n.val = s.cnt.val + 1 ∧ step s = .next { s with
      l := s.r, r := s.l ^^^ feistel s.r (s.subkey i), cnt := n, inputs := rest })

/-- R179: the FIN step. -/
def Obligations.FinStepWritesTheResult : Prop :=
  ∀ (s : State) (e : EdgeInput) (rest : List EdgeInput), s.inputs = e :: rest → e.rst = false → s.ph = .fin →
    step s = .next { s with
      rspData := perm (n := 64) fp (s.r ++ s.l), rspValid := true, ph := .idle, inputs := rest }

/-- R185: while a command is in execution the command port is not looked at, so a command presented then is neither
accepted nor remembered and no error is reported for it; one still presented at an edge in phase IDLE is accepted. -/
def Obligations.CommandsWhileBusyAreIgnored : Prop :=
  ∀ (s : State) (e e' : EdgeInput) (rest : List EdgeInput), e.rst = false → e'.rst = false →
    (s.ph ≠ .idle → step { s with inputs := e :: rest } = step { s with inputs := e' :: rest } ∧
      ∀ t, step { s with inputs := e :: rest } = .next t → t.rspErr = s.rspErr ∧ t.inputs = rest) ∧
    (s.ph = .idle → e.cmdValid = true →
      step { s with inputs := e :: rest } = exec (decode { cmd := e.cmd, data := e.cmdData }) { s with inputs := rest })

/-- The values of `cmd` and `cmd_data` at an edge that does not use them have no effect (R32). -/
def Obligations.UnusedPortValuesHaveNoEffect : Prop :=
  ∀ (s : State) (e : EdgeInput) (w : CmdWord) (x : Block) (rest : List EdgeInput),
    (e.rst = true ∨ e.cmdValid = false ∨ s.ph ≠ .idle) →
    step { s with inputs := e :: rest } = step { s with inputs := { e with cmd := w, cmdData := x } :: rest }

/-- The transitions of (PH, CNT), row by row of R181, from states with CNT = 0 in IDLE and FIN, with `rst` = 0; the spec
marks the table as derived from R171 to R180. -/
def Obligations.SequencerTransitions : Prop :=
  ∀ (s t : State) (e : EdgeInput) (rest : List EdgeInput), s.inputs = e :: rest → e.rst = false →
    (s.ph = .idle ∨ s.ph = .fin → s.cnt = 0) → step s = .next t →
    (s.ph = .idle → e.cmdValid = false → t.ph = .idle ∧ t.cnt.val = 0) ∧
    (s.ph = .idle → e.cmdValid = true → ∀ i, decode { cmd := e.cmd, data := e.cmdData } = i →
      (∀ x, (i = .enc 64 x ∨ i = .dec 64 x) → s.kvalid = true → t.ph = .rnd ∧ t.cnt.val = 0) ∧
      (∀ x, i = .derive 64 x → t.ph = .ks ∧ t.cnt.val = 0) ∧
      (t.rspErr ≠ .ok → t.ph = .idle ∧ t.cnt.val = 0) ∧
      (∀ a j x, i = .rdk a j x → t.ph = .idle ∧ t.cnt.val = 0)) ∧
    (s.ph = .ks → s.cnt.val < 15 → t.ph = .ks ∧ t.cnt.val = s.cnt.val + 1) ∧
    (s.ph = .ks → s.cnt.val = 15 → t.ph = .idle ∧ t.cnt.val = 0) ∧
    (s.ph = .rnd → s.cnt.val < 15 → t.ph = .rnd ∧ t.cnt.val = s.cnt.val + 1) ∧
    (s.ph = .rnd → s.cnt.val = 15 → t.ph = .fin ∧ t.cnt.val = 0) ∧
    (s.ph = .fin → t.ph = .idle ∧ t.cnt.val = 0)

/-! ### Acceptance of a command (44_sequencer.md R174, R175, R176; 60_exceptions.md) -/

/-- R174: ENC and DEC at their accepting edge, refused or not; the length is checked first. -/
def Obligations.TransformAcceptance : Prop :=
  ∀ (s : State) (len : Nat) (x : Block),
    (len ≠ 64 →
      exec (.enc len x) s = .next { s with rspValid := true, rspErr := .error .invalidBlockLength, rspData := 0#64 } ∧
      exec (.dec len x) s = .next { s with rspValid := true, rspErr := .error .invalidBlockLength, rspData := 0#64 }) ∧
    (s.kvalid = false →
      exec (.enc 64 x) s = .next { s with rspValid := true, rspErr := .error .noKey, rspData := 0#64 } ∧
      exec (.dec 64 x) s = .next { s with rspValid := true, rspErr := .error .noKey, rspData := 0#64 }) ∧
    (s.kvalid = true →
      exec (.enc 64 x) s = .next { s with
        l := (perm (n := 64) (m := 64) ip x).extractLsb' 32 32, r := (perm (n := 64) (m := 64) ip x).extractLsb' 0 32,
        dir := .encrypt, cnt := 0, ph := .rnd, rspValid := false, rspErr := .ok, rspData := 0#64 } ∧
      exec (.dec 64 x) s = .next { s with
        l := (perm (n := 64) (m := 64) ip x).extractLsb' 32 32, r := (perm (n := 64) (m := 64) ip x).extractLsb' 0 32,
        dir := .decrypt, cnt := 0, ph := .rnd, rspValid := false, rspErr := .ok, rspData := 0#64 })

/-- R175: DERIVE at its accepting edge, refused or not. Accepted, KVALID is 0 until the last of the 16 KS steps. -/
def Obligations.DeriveAcceptance : Prop :=
  ∀ (s : State) (len : Nat) (key : Block),
    (len ≠ 64 →
      exec (.derive len key) s =
        .next { s with rspValid := true, rspErr := .error .invalidKeyLength, rspData := 0#64 }) ∧
    exec (.derive 64 key) s = .next { s with
      c := (perm (n := 64) (m := 56) pc1 key).extractLsb' 28 28, d := (perm (n := 64) (m := 56) pc1 key).extractLsb' 0 28,
      kvalid := false, cnt := 0, ph := .ks, rspValid := false, rspErr := .ok, rspData := 0#64 } ∧
    ∀ (t u : State) (ins rest : List EdgeInput), exec (.derive 64 key) s = .next t → NoReset ins → ins.length ≤ 15 →
      run ins.length { t with inputs := ins ++ rest } = .next u → u.kvalid = false ∧ u.ph = .ks

/-- R129, R176: RDK, whole: it answers in its accepting edge and changes nothing but the response registers. -/
def Obligations.RdkAnswersTheSubkey : Prop :=
  ∀ (s : State) (a : BitVec 3) (idx : Fin 16) (x : Block),
    (s.kvalid = false →
      exec (.rdk a idx x) s = .next { s with rspValid := true, rspErr := .error .noKey, rspData := 0#64 }) ∧
    (s.kvalid = true →
      exec (.rdk a idx x) s =
        .next { s with rspValid := true, rspErr := .ok, rspData := (subkeyAt s.rk idx).zeroExtend 64 })

/-- R54: the 48-bit subkey stands in `rsp_data[47:0]`, zeros above it, DES bit 1 of the subkey at `rsp_data[47]` and
DES bit 48 at `rsp_data[0]`. -/
def Obligations.SubkeyIsRightAligned : Prop :=
  ∀ (s t : State) (a : BitVec 3) (idx : Fin 16) (x : Block), s.kvalid = true →
    exec (.rdk a idx x) s = .next t →
    t.rspData.extractLsb' 0 48 = s.subkey idx ∧ t.rspData.extractLsb' 48 16 = 0#16 ∧
    t.rspData.getLsbD 47 = dbit (s.subkey idx) 1 ∧ t.rspData.getLsbD 0 = dbit (s.subkey idx) 48

/-- R74: RDK reads only `op` and `cmd[3:0]` of its beat; `idx` selects RK[idx]. -/
def Obligations.RdkIgnoresTheOtherBits : Prop :=
  ∀ (s : State) (w w' : CmdWord) (x x' : Block), w.toNat / 128 = 3 → w'.toNat / 128 = 3 →
    w.toNat % 16 = w'.toNat % 16 →
    exec (decode { cmd := w, data := x }) s = exec (decode { cmd := w', data := x' }) s ∧
    (s.kvalid = true → ∃ t, exec (decode { cmd := w, data := x }) s = .next t ∧
      t.rspData = (subkeyAt s.rk (Fin.ofNat 16 w.toNat)).zeroExtend 64)

/-- The operand of a command whose declared length is not 64 is not used (R56). -/
def Obligations.RefusedOperandIsNotUsed : Prop :=
  ∀ (s : State) (len : Nat) (x x' : Block), len ≠ 64 →
    exec (.enc len x) s = exec (.enc len x') s ∧ exec (.dec len x) s = exec (.dec len x') s ∧
    exec (.derive len x) s = exec (.derive len x') s

/-- Which error each command reports, exactly when, in the codes of R201, with the priority of R208. -/
def Obligations.ErrorsAreReportedExactlyWhen : Prop :=
  ∀ (i : Instr) (s t : State), exec i s = .next t →
    (t.rspErr.code = 0b01#2 ↔ ∃ len x, len ≠ 64 ∧ (i = .enc len x ∨ i = .dec len x)) ∧
    (t.rspErr.code = 0b10#2 ↔ ∃ len x, len ≠ 64 ∧ i = .derive len x) ∧
    (t.rspErr.code = 0b11#2 ↔ s.kvalid = false ∧
      ((∃ x, i = .enc 64 x ∨ i = .dec 64 x) ∨ ∃ a j x, i = .rdk a j x))

/-- R206: an error writes the three response registers and nothing else; in phase IDLE, where commands are accepted, the
phase stays and the outputs of the next cycle show the error. -/
def Obligations.ErrorsWriteOnlyTheResponse : Prop :=
  ∀ (i : Instr) (s t : State) (k : ErrorKind), exec i s = .next t → t.rspErr = .error k →
    t = { s with rspValid := true, rspErr := .error k, rspData := 0#64 } ∧
    (s.ph = .idle → outputs t =
      { cmdReady := true, busy := false, keyValid := s.kvalid, rspValid := true, rspErr := k.code, rspData := 0#64 })

/-- What an accepting edge leaves unchanged, command by command (R160, R161, R128, R129, R174 to R176). -/
def Obligations.AcceptanceFrames : Prop :=
  ∀ (i : Instr) (s t : State), exec i s = .next t →
    t.rk = s.rk ∧ t.inputs = s.inputs ∧
    (∀ len x, i = .enc len x ∨ i = .dec len x → t.kvalid = s.kvalid ∧ t.c = s.c ∧ t.d = s.d) ∧
    (∀ len x, i = .derive len x → t.l = s.l ∧ t.r = s.r ∧ t.dir = s.dir) ∧
    (∀ a j x, i = .rdk a j x →
      t = { s with rspValid := t.rspValid, rspErr := t.rspErr, rspData := t.rspData })

/-! ### Whole commands (41_key_schedule.md, 43_block_codec.md, 44_sequencer.md section 6) -/

/-- R160: ENC, whole. Refused, it writes the response alone; otherwise the accepting edge and the 17 edges after it, with
any inputs but no reset, give the ciphertext and leave RK, KVALID, C and D as they were. With all subkeys zero it is DEC;
a reset before the answer discards it. -/
def Obligations.EncEncryptsTheBlock : Prop :=
  ∀ (s : State) (len : Nat) (x : Block) (ins rest : List EdgeInput), NoReset ins → ins.length = 17 →
    (len ≠ 64 → exec (.enc len x) s =
      .next { s with rspValid := true, rspErr := .error .invalidBlockLength, rspData := 0#64 }) ∧
    (s.kvalid = false → exec (.enc 64 x) s =
      .next { s with rspValid := true, rspErr := .error .noKey, rspData := 0#64 }) ∧
    (s.kvalid = true → ∃ t, exec (.enc 64 x) s = .next t ∧
      run 17 { t with inputs := ins ++ rest } = .next { s with
        l := (halvesAfter s.rk .encrypt (initialHalves x) 16).1,
        r := (halvesAfter s.rk .encrypt (initialHalves x) 16).2,
        dir := .encrypt, ph := .idle, cnt := 0,
        rspValid := true, rspErr := .ok, rspData := encrypt x s.rk, inputs := rest } ∧
      ((∀ i : Fin 16, s.subkey i = 0#48) → encrypt x s.rk = decrypt x s.rk) ∧
      ∀ (j : Nat) (e : EdgeInput), j ≤ 16 → e.rst = true →
        run (j + 1) { t with inputs := ins.take j ++ e :: rest } = .next { State.reset with inputs := rest })

/-- R161: DEC, whole. -/
def Obligations.DecDecryptsTheBlock : Prop :=
  ∀ (s : State) (len : Nat) (x : Block) (ins rest : List EdgeInput), NoReset ins → ins.length = 17 →
    (len ≠ 64 → exec (.dec len x) s =
      .next { s with rspValid := true, rspErr := .error .invalidBlockLength, rspData := 0#64 }) ∧
    (s.kvalid = false → exec (.dec 64 x) s =
      .next { s with rspValid := true, rspErr := .error .noKey, rspData := 0#64 }) ∧
    (s.kvalid = true → ∃ t, exec (.dec 64 x) s = .next t ∧
      run 17 { t with inputs := ins ++ rest } = .next { s with
        l := (halvesAfter s.rk .decrypt (initialHalves x) 16).1,
        r := (halvesAfter s.rk .decrypt (initialHalves x) 16).2,
        dir := .decrypt, ph := .idle, cnt := 0,
        rspValid := true, rspErr := .ok, rspData := decrypt x s.rk, inputs := rest } ∧
      ((∀ i : Fin 16, s.subkey i = 0#48) → encrypt x s.rk = decrypt x s.rk) ∧
      ∀ (j : Nat) (e : EdgeInput), j ≤ 16 → e.rst = true →
        run (j + 1) { t with inputs := ins.take j ++ e :: rest } = .next { State.reset with inputs := rest })

/-- R128: DERIVE, whole. Refused, it writes the response alone; otherwise the accepting edge and the 16 edges after it
install the key set of the key and leave L, R and DIR as they were. Until then KVALID is 0, and a reset leaves no key set. -/
def Obligations.DeriveInstallsTheKeySet : Prop :=
  ∀ (s : State) (len : Nat) (key : Block) (ins rest : List EdgeInput), NoReset ins → ins.length = 16 →
    (len ≠ 64 → exec (.derive len key) s =
      .next { s with rspValid := true, rspErr := .error .invalidKeyLength, rspData := 0#64 }) ∧
    ∃ t, exec (.derive 64 key) s = .next t ∧
      run 16 { t with inputs := ins ++ rest } = .next { s with
        rk := keySchedule key, kvalid := true,
        c := (initialKeyHalves key).1, d := (initialKeyHalves key).2, ph := .idle, cnt := 0,
        rspValid := true, rspErr := .ok, rspData := 0#64, inputs := rest } ∧
      (∀ j, j ≤ 15 → ∃ u, run j { t with inputs := ins ++ rest } = .next u ∧ u.kvalid = false ∧ u.ph = .ks) ∧
      ∀ (j : Nat) (e : EdgeInput), j ≤ 15 → e.rst = true →
        run (j + 1) { t with inputs := ins.take j ++ e :: rest } = .next { State.reset with inputs := rest }

/-- The two levels agree (44_sequencer.md section 6, which the spec derives from R171 to R180): from a ready state the
accepting edge of any command and the edges of its latency give, field by field, the state of the command-level rule. -/
def Obligations.CommandLevelAgreesWithTheEdges : Prop :=
  ∀ (s : State) (i : Instr) (ins rest : List EdgeInput), i.WellFormed → s.ph = .idle → s.cnt = 0 →
    NoReset ins → ins.length = latency i s →
    s.inputs = EdgeInput.present (encode i) :: (ins ++ rest) →
    run (latency i s + 1) s = .next { command i s with inputs := rest }

/-- R182: which edges leave the block busy. The block is busy after the accepting edge and each later edge before the
one that answers, and the answer is there exactly after the edges of the table: 0, 16 or 17. -/
def Obligations.LatencyTable : Prop :=
  ∀ (s : State) (i : Instr) (ins rest : List EdgeInput), i.WellFormed → s.ph = .idle → NoReset ins →
    s.inputs = EdgeInput.present (encode i) :: (ins ++ rest) →
    ∀ n : Nat,
      n = (match i with
        | .enc len _ => if len = 64 ∧ s.kvalid = true then 17 else 0
        | .dec len _ => if len = 64 ∧ s.kvalid = true then 17 else 0
        | .derive len _ => if len = 64 then 16 else 0
        | .rdk _ _ _ => 0) →
      ins.length = n →
      (∀ j < n, ∃ t, run (j + 1) s = .next t ∧ (outputs t).busy = true ∧ (outputs t).rspValid = false) ∧
      ∃ t, run (n + 1) s = .next t ∧ (outputs t).cmdReady = true ∧ (outputs t).rspValid = true

/-- R241: every command answers within 17 edges of its acceptance, whatever is presented meanwhile, if `rst` stays 0. -/
def Obligations.EveryCommandAnswersWithinSeventeenEdges : Prop :=
  ∀ (i : Instr) (s t : State) (ins rest : List EdgeInput), s.ph = .idle → exec i s = .next t → NoReset ins →
    ins.length = 17 → ∃ j u, j ≤ 17 ∧ run j { t with inputs := ins ++ rest } = .next u ∧ u.rspValid = true ∧ u.ph = .idle

/-- R158: the result of an ENC or DEC depends on the operand, the direction and RK alone: two states that agree on RK
and have a key set answer the same, whatever else they hold and whatever is presented meanwhile. -/
def Obligations.ResultDependsOnKeyAndOperandOnly : Prop :=
  ∀ (s t : State) (x : Block) (i : Instr) (insS insT restS restT : List EdgeInput),
    i = .enc 64 x ∨ i = .dec 64 x → s.ph = .idle → t.ph = .idle → s.kvalid = true → t.kvalid = true →
    s.rk = t.rk → NoReset insS → NoReset insT → insS.length = 17 → insT.length = 17 →
    s.inputs = EdgeInput.present (encode i) :: (insS ++ restS) →
    t.inputs = EdgeInput.present (encode i) :: (insT ++ restT) →
    ∃ s' t', run 18 s = .next s' ∧ run 18 t = .next t' ∧ s'.rspValid = true ∧ t'.rspValid = true ∧
      s'.rspData = t'.rspData

/-- The round trip at the port (property T1 of 95_test_vectors.md): after DERIVE of a key, ENC of a block answers its
ciphertext and DEC of that answer answers the block, whatever is presented while the block is busy. -/
def Obligations.PortRoundTrip : Prop :=
  ∀ (s : State) (key x y : Block) (ins1 ins2 ins3 rest : List EdgeInput), s.ph = .idle →
    NoReset ins1 → NoReset ins2 → NoReset ins3 → ins1.length = 16 → ins2.length = 17 → ins3.length = 17 →
    y = encrypt x (keySchedule key) →
    s.inputs = EdgeInput.present (encode (.derive 64 key)) :: (ins1 ++
      EdgeInput.present (encode (.enc 64 x)) :: (ins2 ++
      EdgeInput.present (encode (.dec 64 y)) :: (ins3 ++ rest))) →
    ∃ t u, run 35 s = .next t ∧ t.rspValid = true ∧ t.rspErr = .ok ∧ t.rspData = y ∧
      run 18 t = .next u ∧ u.rspValid = true ∧ u.rspErr = .ok ∧ u.rspData = x

/-! ### Who writes what (10_state.md) -/

/-- RK changes at an edge only by reset, or by the KS step, which writes RK[CNT] alone (R21). -/
def Obligations.OnlyKsStepsWriteTheKeyFile : Prop :=
  ∀ s t : State, step s = .next t → t.rk ≠ s.rk →
    s.sampled.rst = true ∨ (s.ph = .ks ∧ ∀ i : Fin 16, i ≠ s.cnt → t.subkey i = s.subkey i)

/-- KVALID is raised only by the last KS step, and lowered only by reset or by an accepted DERIVE of length 64 (R22). -/
def Obligations.KvalidWriters : Prop :=
  ∀ s t : State, step s = .next t →
    (s.kvalid = false → t.kvalid = true → s.ph = .ks ∧ s.cnt.val = 15) ∧
    (s.kvalid = true → t.kvalid = false → s.sampled.rst = true ∨
      (accepts s.sampled s = true ∧ ∃ key, decode s.sampled.beat = .derive 64 key))

/-- Who writes C, D, L, R and DIR (R23, R24, R25). -/
def Obligations.WorkingRegisterWriters : Prop :=
  ∀ s t : State, step s = .next t → s.sampled.rst = false →
    ((t.c, t.d) ≠ (s.c, s.d) → s.ph = .ks ∨
      (accepts s.sampled s = true ∧ ∃ key, decode s.sampled.beat = .derive 64 key)) ∧
    ((t.l, t.r) ≠ (s.l, s.r) → s.ph = .rnd ∨
      (accepts s.sampled s = true ∧ s.kvalid = true ∧
        ∃ x, decode s.sampled.beat = .enc 64 x ∨ decode s.sampled.beat = .dec 64 x)) ∧
    (t.dir ≠ s.dir →
      accepts s.sampled s = true ∧ s.kvalid = true ∧
        ∃ x, decode s.sampled.beat = .enc 64 x ∨ decode s.sampled.beat = .dec 64 x)

/-- The response registers change only at an acceptance, at the last KS step, at the FIN step, or by reset, so a response
lasts until the next acceptance (R29, R30, R31, R237). -/
def Obligations.ResponseWriters : Prop :=
  ∀ s t : State, step s = .next t →
    (t.rspValid, t.rspErr, t.rspData) ≠ (s.rspValid, s.rspErr, s.rspData) →
    s.sampled.rst = true ∨ accepts s.sampled s = true ∨ (s.ph = .ks ∧ s.cnt.val = 15) ∨ s.ph = .fin

/-- R33: the outputs show PH, KVALID and the response registers, and nothing of the other fields or the inputs. -/
def Obligations.OutputsShowTheStatusOnly : Prop :=
  (∀ s : State,
    ((outputs s).cmdReady = true ↔ s.ph = .idle) ∧ (outputs s).busy = !(outputs s).cmdReady ∧
    (outputs s).keyValid = s.kvalid ∧ (outputs s).rspValid = s.rspValid ∧
    (outputs s).rspErr = s.rspErr.code ∧ (outputs s).rspData = s.rspData) ∧
  ∀ s t : State, s.ph = t.ph → s.kvalid = t.kvalid → s.rspValid = t.rspValid → s.rspErr = t.rspErr →
    s.rspData = t.rspData → outputs s = outputs t

/-! ### Invariants (10_state.md section 10, which the spec derives from R35 and R171 to R180) -/

/-- The invariant holds at reset, for whatever work: reset leaves none. -/
def Obligations.InvariantAtReset : Prop := ∀ w : Work, Inv w State.reset

/-- The items about the sequencer and the response registers are kept by every edge. -/
def Obligations.ControlInvariantIsKept : Prop :=
  ∀ s t : State, ControlInv s → step s = .next t → ControlInv t

/-- All eight items are kept by every edge, whatever the inputs, for the SAME work, which changes only when a command is
accepted without error: while KVALID = 1, RK is the key schedule of the last key derived; in KS, C, D and the subkeys
written are those of the key being derived; in RND and FIN the halves and DIR are those of the block and direction that
were accepted; and the edge that ends a transform writes its result. -/
def Obligations.InvariantIsKept : Prop :=
  ∀ (w : Work) (s t : State), Inv w s → step s = .next t →
    Inv (w.next s) t ∧
    (s.ph ≠ .idle → w.next s = w) ∧
    (s.ph = .fin → s.sampled.rst = false →
      t.rspValid = true ∧ t.rspErr = .ok ∧ t.rspData = transform w.block (keySchedule w.key) w.dir)

/-- While a command is in execution the outputs show that and nothing of the computation (44_sequencer.md section 5,
derived by the spec). The invariant rules out states no run reaches. -/
def Obligations.OutputsWhileBusy : Prop :=
  ∀ (w : Work) (s : State), Inv w s → s.ph ≠ .idle →
    outputs s =
      { cmdReady := false, busy := true, keyValid := decide (s.ph ≠ .ks), rspValid := false, rspErr := 0#2,
        rspData := 0#64 }

/-- What an earlier command left in C, D, L, R, DIR, CNT, or in RK without a key set, never reaches an output: two ready
states that differ only there show the same outputs after any number of edges (R22, R37). -/
def Obligations.ResidualStateIsInvisible : Prop :=
  ∀ s t : State, SameToCaller s t → ∀ n : Nat,
    ∃ s' t', run n s = .next s' ∧ run n t = .next t' ∧ outputs s' = outputs t'

/-! ### Bits and bytes (00_scope.md, 20_memory.md) -/

/-- R10: DES bit i of PERM(T, N, v) is DES bit T[i] of v. -/
def Obligations.PermutationInDesNumbering : Prop :=
  ∀ (m n : Nat) (table : Vector Nat m) (v : BitVec n) (i : Nat) (h : i < m), table[i] ∈ Finset.Icc 1 n →
    dbit (perm table v) (i + 1) = dbit v table[i] ∧
    (perm table v).getLsbD (m - (i + 1)) = v.getLsbD (n - table[i])

/-- R11: ROL28 as shifts of unbounded naturals with a mask, and in DES numbering, for the two amounts that occur. -/
def Obligations.RotationInDesNumbering : Prop :=
  ∀ (x : KeyHalf) (a : Nat), a = 1 ∨ a = 2 →
    (rol28 x a).toNat = ((x.toNat <<< a) ||| (x.toNat >>> (28 - a))) &&& 0x0FFFFFFF ∧
    ∀ i : Nat, 1 ≤ i → i ≤ 28 → dbit (rol28 x a) i = dbit x ((i - 1 + a) % 28 + 1)

/-- R52, R53: DES bit 8i+k of the operand is bit k, from the left, of byte i; the bytes of a result are read back by the
same mapping. -/
def Obligations.OperandBytesAreBigEndian : Prop :=
  (∀ (b : Vector (BitVec 8) 8) (i : Fin 8) (k : Nat), 1 ≤ k → k ≤ 8 →
    dbit (blockOfBytes b) (8 * i.val + k) = dbit (b[i.val]'i.isLt) k) ∧
  (∀ b : Vector (BitVec 8) 8, bytesOfBlock (blockOfBytes b) = b) ∧
  ∀ v : Block, blockOfBytes (bytesOfBlock v) = v

/-! ### The cipher (40_tables.md to 43_block_codec.md) -/

/-- Keys that agree outside the parity positions 8, 16, ..., 64 have the same key set (R124, marked derived). -/
def Obligations.ParityBitsDoNotMatter : Prop :=
  ∀ k k' : Block, (∀ i, 1 ≤ i → i ≤ 64 → i % 8 ≠ 0 → dbit k i = dbit k' i) → keySchedule k = keySchedule k'

/-- The total rotation before each subkey is the one R122 lists, and after sixteen rounds the halves are back (R127,
marked derived). -/
def Obligations.TotalRotations : Prop :=
  ∀ (key : Block),
    (∀ n : Fin 16, keyHalves key (n.val + 1) =
      ((initialKeyHalves key).1.rotateLeft
          ((#v[1, 2, 4, 6, 8, 10, 12, 14, 15, 17, 19, 21, 23, 25, 27, 28] : Vector Nat 16)[n.val]'n.isLt),
       (initialKeyHalves key).2.rotateLeft
          ((#v[1, 2, 4, 6, 8, 10, 12, 14, 15, 17, 19, 21, 23, 25, 27, 28] : Vector Nat 16)[n.val]'n.isLt))) ∧
    keyHalves key 16 = initialKeyHalves key

/-- If each half of the permuted key is all zeros or all ones, all sixteen subkeys are equal (R127 item 3, marked
derived). -/
def Obligations.ConstantHalvesGiveOneSubkey : Prop :=
  ∀ key : Block,
    ((initialKeyHalves key).1 = 0#28 ∨ (initialKeyHalves key).1 = BitVec.allOnes 28) →
    ((initialKeyHalves key).2 = 0#28 ∨ (initialKeyHalves key).2 = BitVec.allOnes 28) →
    ∀ i j : Fin 16, subkeyAt (keySchedule key) i = subkeyAt (keySchedule key) j

/-- F in one expression over the flat S-boxes (R142, marked derived). -/
def Obligations.FeistelByFlatTables : Prop :=
  ∀ (right : Half) (k : Subkey), ∀ x : BitVec 48, x = perm (n := 32) expansion right ^^^ k →
    feistel right k = perm (n := 32) pbox
      (flatEntry 0 (x.extractLsb' 42 6) ++ flatEntry 1 (x.extractLsb' 36 6) ++
       flatEntry 2 (x.extractLsb' 30 6) ++ flatEntry 3 (x.extractLsb' 24 6) ++
       flatEntry 4 (x.extractLsb' 18 6) ++ flatEntry 5 (x.extractLsb' 12 6) ++
       flatEntry 6 (x.extractLsb' 6 6) ++ flatEntry 7 (x.extractLsb' 0 6))

/-- A round is undone by a swap, the same round and a swap (R145, marked derived). -/
def Obligations.RoundUndoneBySwap : Prop :=
  ∀ (l r : Half) (k : Subkey),
    (feistelRound (feistelRound (l, r) k).swap k).swap = (l, r) ∧
    ∀ l' r' : Half, feistelRound (l, r) k = (l', r') → r = l' ∧ l = r' ^^^ feistel l' k

/-- FP undoes IP and IP undoes FP, on every 64-bit value and entry by entry (R95). -/
def Obligations.FinalPermutationInvertsInitial : Prop :=
  (∀ v : Block, perm fp (perm ip v : Block) = v) ∧ (∀ v : Block, perm ip (perm fp v : Block) = v) ∧
  ∀ i : Fin 64,
    ip.toList[(fp[i.val]'i.isLt) - 1]? = some (i.val + 1) ∧ fp.toList[(ip[i.val]'i.isLt) - 1]? = some (i.val + 1)

/-- R153: encryption takes the subkeys in order 1..16, decryption the same rounds in order 16..1; in particular
decryption is encryption with the key list read backwards. -/
def Obligations.SubkeyOrder : Prop :=
  ∀ (keys : RoundKeySet),
    (∀ (lr : Half × Half) (n : Fin 16),
      halvesAfter keys .encrypt lr (n.val + 1) =
        feistelRound (halvesAfter keys .encrypt lr n.val) (subkeyAt keys n) ∧
      ∀ m : Fin 16, m.val = 15 - n.val → halvesAfter keys .decrypt lr (n.val + 1) =
        feistelRound (halvesAfter keys .decrypt lr n.val) (subkeyAt keys m)) ∧
    ∀ x : Block, decrypt x keys = encrypt x keys.reverse

/-- The halves that reach FP are L15 xor F(R15, k16) and then R15: the last swap is not undone (R154). -/
def Obligations.LastSwapIsNotUndone : Prop :=
  ∀ (x : Block) (keys : RoundKeySet) (dir : Direction) (l15 r15 : Half),
    halvesAfter keys dir (initialHalves x) 15 = (l15, r15) →
    transform x keys dir =
      perm (n := 64) fp ((l15 ^^^ feistel r15 (subkeyAt keys (subkeyIndex dir 15))) ++ r15)

/-- R157: decryption undoes encryption, for every block and every list of sixteen subkeys. -/
def Obligations.DecryptUndoesEncrypt : Prop :=
  ∀ (x : Block) (keys : RoundKeySet), decrypt (encrypt x keys) keys = x

/-- Encryption undoes decryption (43_block_codec.md section 1, which the spec derives). -/
def Obligations.EncryptUndoesDecrypt : Prop :=
  ∀ (y : Block) (keys : RoundKeySet), encrypt (decrypt y keys) keys = y

/-- The facts of 40_tables.md R108, all ten items, of the model's tables (marked derived). -/
def Obligations.TablesHaveTheirStructure : Prop := TableFacts
end

