-- ==== Sys2Proof/Laws/Bits.lean ====
section
/-! SUPPORT. What the bit operations of 00_scope.md do, bit by bit. -/

namespace Sys2Proof.Machine

/-- A DES-numbered bit is a bit counted from the left (R8). -/
theorem dbit_eq_getMsbD {n i : Nat} (v : BitVec n) (h1 : 1 ≤ i) (hn : i ≤ n) : dbit v i = v.getMsbD (i - 1) := by
  have : n - 1 - (i - 1) = n - i := by omega
  simp [dbit, BitVec.getMsbD, this, show i - 1 < n by omega]

theorem getMsbD_eq_dbit {n i : Nat} (v : BitVec n) (h : i < n) : v.getMsbD i = dbit v (i + 1) := by
  rw [dbit_eq_getMsbD v (by omega) (by omega), Nat.add_sub_cancel]

/-- Bit `i` of a permuted value, counted from the left at 0, is the DES bit the table names there (R10). -/
theorem getMsbD_perm {m n : Nat} (table : Vector Nat m) (v : BitVec n) (i : Nat) (h : i < m) :
    (perm table v).getMsbD i = dbit v table[i] := by
  simp [perm, h]

/-- Two values with the same bits from the left are equal. -/
theorem eq_of_dbit {n : Nat} {v w : BitVec n} (h : ∀ i, 1 ≤ i → i ≤ n → dbit v i = dbit w i) : v = w := by
  refine BitVec.eq_of_getMsbD_eq fun i hi => ?_
  rw [getMsbD_eq_dbit v hi, getMsbD_eq_dbit w hi]
  exact h _ (by omega) (by omega)

/-- Masking to 28 bits is what `BitVec 28` does (R11). -/
theorem rol28_eq (x : KeyHalf) (s : Nat) : rol28 x s = (x <<< s) ||| (x >>> (28 - s)) := by
  apply BitVec.eq_of_toNat_eq
  have : (0x0FFFFFFF : Nat) = 2 ^ 28 - 1 := by norm_num
  simp only [rol28, this, Nat.and_two_pow_sub_one_eq_mod, BitVec.toNat_ofNat, Nat.mod_mod,
    BitVec.toNat_or, BitVec.toNat_shiftLeft, BitVec.toNat_ushiftRight]
  rw [Nat.or_mod_two_pow]
  congr 1
  exact Nat.mod_eq_of_lt (lt_of_le_of_lt (Nat.shiftRight_le _ _) x.isLt)

end Sys2Proof.Machine
end

