-- ==== Sys2Proof/Laws/Cipher.lean ====
section
/-! SUPPORT. The equations of the cipher's functions that proofs rewrite with. -/

namespace Sys2Proof.Machine

theorem subkeyAt_set (keys : RoundKeySet) (i j : Fin 16) (k : Subkey) :
    subkeyAt (keys.set i.val k i.isLt) j = if i = j then k else subkeyAt keys j := by
  simp [subkeyAt, Vector.getElem_set, Fin.ext_iff]

/-- Entry i of KS(key) is K(i+1) (R120). -/
@[simp] theorem subkeyAt_keySchedule (key : Block) (i : Fin 16) :
    subkeyAt (keySchedule key) i = selectSubkey (keyHalves key (i.val + 1)) := by
  simp [subkeyAt, keySchedule]

theorem finOfNat_val (n : Fin 16) : Fin.ofNat 16 n.val = n :=
  Fin.ext (Nat.mod_eq_of_lt n.isLt)

/-- One more rotation, by counter value (R122). -/
theorem keyHalves_succ (key : Block) (n : Fin 16) :
    keyHalves key (n.val + 1) = rotateKeyHalves n (keyHalves key n.val) := by
  rw [keyHalves, finOfNat_val]

/-- One more round, by counter value (R152, R153). -/
theorem halvesAfter_succ (keys : RoundKeySet) (dir : Direction) (lr : Half × Half) (n : Fin 16) :
    halvesAfter keys dir lr (n.val + 1) =
      feistelRound (halvesAfter keys dir lr n.val) (subkeyAt keys (subkeyIndex dir n)) := by
  rw [halvesAfter, finOfNat_val]

/-- Splitting a joined pair of halves gives the pair back (R9, R151, R154). -/
theorem split_append (a b : Half) : ((a ++ b).extractLsb' 32 32, (a ++ b).extractLsb' 0 32) = (a, b) := by
  refine Prod.ext (BitVec.eq_of_getLsbD_eq fun i hi => ?_) (BitVec.eq_of_getLsbD_eq fun i hi => ?_)
  · have e : ¬ 32 + i < 32 := by omega
    simp only [BitVec.getLsbD_extractLsb', hi, decide_true, Bool.true_and, BitVec.getLsbD_append, e, if_false,
      Nat.add_sub_cancel_left]
  · simp only [BitVec.getLsbD_extractLsb', hi, decide_true, Bool.true_and, BitVec.getLsbD_append, Nat.zero_add, if_true]

theorem subkeyIndex_val (dir : Direction) (n : Fin 16) :
    (subkeyIndex dir n).val = match dir with | .encrypt => n.val | .decrypt => 15 - n.val := by
  revert n
  cases dir <;> decide

end Sys2Proof.Machine
end

