-- ==== Sys2Proof/Laws/Exec.lean ====
section
/-! SUPPORT. What each shared operation of acceptance and of the sequencer can do, said once: the inversion lemmas
that proofs about `exec` and `step` cite. -/

namespace Sys2Proof.Machine

theorem lengthOk_iff (len : Nat) : lengthOk len = true ↔ len = 64 := by
  simp [lengthOk, Config.operandBits]

theorem lengthOk_false_iff (len : Nat) : lengthOk len = false ↔ len ≠ 64 := by
  simp [lengthOk, Config.operandBits]

/-- Raising after the clearing of R173 is raising: `raise` writes all three response registers. -/
@[simp] theorem State.raise_clearResponse (s : State) (e : ErrorKind) : s.clearResponse.raise e = s.raise e := rfl

@[simp] theorem State.respondOk_clearResponse (s : State) (x : Block) :
    s.clearResponse.respondOk x = s.respondOk x := rfl

/-- `accept_xform` does one of three things (R174, R208). -/
theorem acceptTransform_cases (dir : Direction) (len : Nat) (block : Block) (s : State) :
    (len ≠ 64 ∧ acceptTransform dir len block s = s.raise .invalidBlockLength) ∨
    (len = 64 ∧ s.kvalid = false ∧ acceptTransform dir len block s = s.raise .noKey) ∨
    (len = 64 ∧ s.kvalid = true ∧ acceptTransform dir len block s =
      ((s.clearResponse.setHalves (initialHalves block)).setDir dir).goto .rnd 0) := by
  unfold acceptTransform
  by_cases h : len = 64
  · cases hk : s.kvalid <;> simp [h, lengthOk, Config.operandBits]
  · simp [h, lengthOk, Config.operandBits]

/-- `accept_derive` does one of two things (R175). -/
theorem acceptDerive_cases (len : Nat) (key : Block) (s : State) :
    (len ≠ 64 ∧ acceptDerive len key s = s.raise .invalidKeyLength) ∨
    (len = 64 ∧ acceptDerive len key s =
      ((s.clearResponse.setKeyHalves (initialKeyHalves key)).setKvalid false).goto .ks 0) := by
  unfold acceptDerive
  by_cases h : len = 64 <;> simp [h, lengthOk, Config.operandBits]

/-- `accept_rdk` does one of two things (R176). -/
theorem acceptRdk_cases (idx : Fin 16) (s : State) :
    (s.kvalid = false ∧ acceptRdk idx s = s.raise .noKey) ∨
    (s.kvalid = true ∧ acceptRdk idx s = s.respondOk (presentSubkey (s.subkey idx))) := by
  unfold acceptRdk
  cases s.kvalid <;> simp

/-- Everything an accepted command can do to the state, and which command does it (R173 to R176). -/
theorem exec_cases {i : Instr} {s t : State} (h : exec i s = .next t) :
    (∃ e, t = s.raise e) ∨
    (∃ dir block, ((i = .enc 64 block ∧ dir = .encrypt) ∨ (i = .dec 64 block ∧ dir = .decrypt)) ∧
      s.kvalid = true ∧ t = ((s.clearResponse.setHalves (initialHalves block)).setDir dir).goto .rnd 0) ∨
    (∃ key, i = .derive 64 key ∧
      t = ((s.clearResponse.setKeyHalves (initialKeyHalves key)).setKvalid false).goto .ks 0) ∨
    (∃ ignored idx data, i = .rdk ignored idx data ∧ s.kvalid = true ∧
      t = s.respondOk (presentSubkey (s.subkey idx))) := by
  cases i with
  | enc len block =>
    obtain rfl : acceptTransform .encrypt len block s = t := by simpa [exec, execEnc] using h
    rcases acceptTransform_cases .encrypt len block s with ⟨_, e⟩ | ⟨_, _, e⟩ | ⟨rfl, k, e⟩
    · exact .inl ⟨_, e⟩
    · exact .inl ⟨_, e⟩
    · exact .inr (.inl ⟨_, _, .inl ⟨rfl, rfl⟩, k, e⟩)
  | dec len block =>
    obtain rfl : acceptTransform .decrypt len block s = t := by simpa [exec, execDec] using h
    rcases acceptTransform_cases .decrypt len block s with ⟨_, e⟩ | ⟨_, _, e⟩ | ⟨rfl, k, e⟩
    · exact .inl ⟨_, e⟩
    · exact .inl ⟨_, e⟩
    · exact .inr (.inl ⟨_, _, .inr ⟨rfl, rfl⟩, k, e⟩)
  | derive len key =>
    obtain rfl : acceptDerive len key s = t := by simpa [exec, execDerive] using h
    rcases acceptDerive_cases len key s with ⟨_, e⟩ | ⟨rfl, e⟩
    · exact .inl ⟨_, e⟩
    · exact .inr (.inr (.inl ⟨_, rfl, e⟩))
  | rdk ignored idx data =>
    obtain rfl : acceptRdk idx s = t := by simpa [exec, execRdk] using h
    rcases acceptRdk_cases idx s with ⟨_, e⟩ | ⟨k, e⟩
    · exact .inl ⟨_, e⟩
    · exact .inr (.inr (.inr ⟨_, _, _, rfl, k, e⟩))

/-- The KS step does one of two things, by CNT (R177). -/
theorem ksStep_cases (s : State) :
    (s.cnt = 15 ∧ ksStep s =
      (((((s.setKeyHalves (rotateKeyHalves s.cnt s.keyPair)).setSubkey s.cnt
        (selectSubkey (rotateKeyHalves s.cnt s.keyPair))).goto .idle 0).setKvalid true).markResponse)) ∨
    (s.cnt ≠ 15 ∧ ksStep s =
      ((s.setKeyHalves (rotateKeyHalves s.cnt s.keyPair)).setSubkey s.cnt
        (selectSubkey (rotateKeyHalves s.cnt s.keyPair))).goto .ks (s.cnt + 1)) := by
  unfold ksStep
  by_cases h : s.cnt = 15
  · exact .inl ⟨h, by simp only [h, if_true]⟩
  · exact .inr ⟨h, by simp only [h, if_false]⟩

/-- The RND step does one of two things, by CNT (R178). -/
theorem rndStep_cases (s : State) :
    (s.cnt = 15 ∧ rndStep s =
      (s.setHalves (feistelRound s.halves (s.subkey (subkeyIndex s.dir s.cnt)))).goto .fin 0) ∨
    (s.cnt ≠ 15 ∧ rndStep s =
      (s.setHalves (feistelRound s.halves (s.subkey (subkeyIndex s.dir s.cnt)))).goto .rnd (s.cnt + 1)) := by
  unfold rndStep
  by_cases h : s.cnt = 15
  · exact .inl ⟨h, by simp only [h, if_true]⟩
  · exact .inr ⟨h, by simp only [h, if_false]⟩

/-- Everything one edge can do (R171). -/
theorem edge_cases {e : EdgeInput} {s t : State} (h : edge e s = .next t) :
    (e.rst = true ∧ t = s.resetEdge) ∨
    (e.rst = false ∧ s.ph = .idle ∧ e.cmdValid = true ∧ exec (decode e.beat) s = .next t) ∨
    (e.rst = false ∧ s.ph = .idle ∧ e.cmdValid = false ∧ t = s) ∨
    (e.rst = false ∧ s.ph = .ks ∧ t = ksStep s) ∨
    (e.rst = false ∧ s.ph = .rnd ∧ t = rndStep s) ∨
    (e.rst = false ∧ s.ph = .fin ∧ t = finStep s) := by
  unfold edge at h
  cases hr : e.rst with
  | true => left; simp [hr] at h; exact ⟨rfl, h.symm⟩
  | false =>
    right
    cases hp : s.ph with
    | idle =>
      cases hv : e.cmdValid with
      | true => left; simp [hr, hp, hv] at h; exact ⟨rfl, rfl, rfl, h⟩
      | false => right; left; simp [hr, hp, hv] at h; exact ⟨rfl, rfl, rfl, h.symm⟩
    | ks => right; right; left; simp [hr, hp] at h; exact ⟨rfl, rfl, h.symm⟩
    | rnd => right; right; right; left; simp [hr, hp] at h; exact ⟨rfl, rfl, h.symm⟩
    | fin => right; right; right; right; simp [hr, hp] at h; exact ⟨rfl, rfl, h.symm⟩

end Sys2Proof.Machine
end

