-- ==== Sys2Proof/Laws/Commands.lean ====
section
/-! SUPPORT. What each command-level rule can do, said once, in the cases of the acceptance lemmas. -/

namespace Sys2Proof.Machine

/-- ENC and DEC as one transition do one of three things (R160, R161). -/
theorem commandTransform_cases (dir : Direction) (len : Nat) (block : Block) (s : State) :
    (len ≠ 64 ∧ commandTransform dir len block s = s.raise .invalidBlockLength) ∨
    (len = 64 ∧ s.kvalid = false ∧ commandTransform dir len block s = s.raise .noKey) ∨
    (len = 64 ∧ s.kvalid = true ∧ commandTransform dir len block s =
      ((s.setHalves (halvesAfter s.rk dir (initialHalves block) 16)).setDir dir).respondOk
        (transform block s.rk dir)) := by
  unfold commandTransform
  by_cases h : len = 64
  · cases hk : s.kvalid <;> simp [h, lengthOk, Config.operandBits]
  · simp [h, lengthOk, Config.operandBits]

/-- DERIVE as one transition does one of two things (R128). -/
theorem commandDerive_cases (len : Nat) (key : Block) (s : State) :
    (len ≠ 64 ∧ commandDerive len key s = s.raise .invalidKeyLength) ∨
    (len = 64 ∧ commandDerive len key s =
      ((State.setKvalid { s with rk := keySchedule key } true).setKeyHalves (keyHalves key 16)).respondOk 0#64) := by
  unfold commandDerive
  by_cases h : len = 64 <;> simp [h, lengthOk, Config.operandBits]

/-- RDK as one transition does one of two things (R129). -/
theorem commandRdk_cases (idx : Fin 16) (s : State) :
    (s.kvalid = false ∧ commandRdk idx s = s.raise .noKey) ∨
    (s.kvalid = true ∧ commandRdk idx s = s.respondOk (presentSubkey (s.subkey idx))) := by
  unfold commandRdk
  cases s.kvalid <;> simp

end Sys2Proof.Machine
end

