-- ==== Sys2Proof/Laws/PerInstr.lean ====
section
/-! SUPPORT. Statements about every instruction as syntax, constructor by constructor. -/

/-- The encoded word lies in the opcode-table row of the instruction's own mnemonic (R72). -/
def Sys2Proof.Laws.OpcodeRowCovers.Statement (i : Sys2Proof.Instr) : Prop :=
  ∃ row ∈ Sys2Proof.opcodeRows, row.mnemonic = i.mnemonic ∧ row.covers (Sys2Proof.encode i).cmd = true

namespace Sys2Proof.Laws

theorem OpcodeRowCovers.formatL_covers (op : BitVec 2) (len : Nat) :
    formatL op len &&& 0x180#9 = op ++ 0#7 := by
  unfold formatL
  generalize BitVec.ofNat 7 len = x
  revert op x
  decide +kernel

theorem OpcodeRowCovers.formatK_covers (ignored : BitVec 3) (idx : Fin 16) :
    formatK ignored idx &&& 0x180#9 = 0x180#9 := by
  revert ignored idx
  decide +kernel

theorem OpcodeRowCovers.enc (len : Nat) (block : Block) : OpcodeRowCovers.Statement (.enc len block) :=
  ⟨_, .head _, rfl, by simp [OpcodeRow.covers, encode, OpcodeRowCovers.formatL_covers]⟩

theorem OpcodeRowCovers.dec (len : Nat) (block : Block) : OpcodeRowCovers.Statement (.dec len block) :=
  ⟨_, .tail _ (.head _), rfl, by simp [OpcodeRow.covers, encode, OpcodeRowCovers.formatL_covers]⟩

theorem OpcodeRowCovers.derive (len : Nat) (key : Block) : OpcodeRowCovers.Statement (.derive len key) :=
  ⟨_, .tail _ (.tail _ (.head _)), rfl, by simp [OpcodeRow.covers, encode, OpcodeRowCovers.formatL_covers]⟩

theorem OpcodeRowCovers.rdk (ignored : BitVec 3) (idx : Fin 16) (data : Block) :
    OpcodeRowCovers.Statement (.rdk ignored idx data) :=
  ⟨_, .tail _ (.tail _ (.tail _ (.head _))), rfl,
    by simp [OpcodeRow.covers, encode, OpcodeRowCovers.formatK_covers]⟩

end Sys2Proof.Laws
end

