-- ==== Sys2Proof/Laws/Run.lean ====
section
/-! SUPPORT. Runs of several edges, and how the work of the invariant moves. -/

namespace Sys2Proof

open Sys2Proof.Machine

@[simp] theorem run_zero (s : State) : run 0 s = .next s := rfl

/-- A run begins with one edge. -/
theorem run_succ {n : Nat} {s t : State} (h : step s = .next t) : run (n + 1) s = run n t := by
  show Host.Core.run core (n + 1) s = Host.Core.run core n t
  simp only [Host.Core.run]
  have : core.step s = .next t := h
  rw [this]

/-- Runs compose. -/
theorem run_add {m n : Nat} {s t : State} (h : run m s = .next t) : run (m + n) s = run n t := by
  induction m generalizing s with
  | zero =>
    obtain rfl : s = t := by simpa using h
    simp
  | succ m ih =>
    cases hs : step s with
    | next u =>
      rw [run_succ hs] at h
      rw [Nat.succ_add, run_succ hs]
      exact ih h
    | fault r => cases r
    | refused r =>
      have h' : Host.Core.run core (m + 1) s = .next t := h
      simp only [Host.Core.run] at h'
      have : core.step s = .refused r := hs
      rw [this] at h'
      simp at h'

/-- The inputs of the next edge, when the caller's list names them. -/
theorem step_of_inputs {s : State} {e : EdgeInput} {rest : List EdgeInput} (h : s.inputs = e :: rest) :
    step s = edge e { s with inputs := rest } := by
  simp [step, State.sampled, State.consumeInput, h]

/-! One lemma per kind of edge, for a state whose list names the inputs of that edge. -/

variable {s : State} {e : EdgeInput} {rest : List EdgeInput}

theorem step_reset (h : s.inputs = e :: rest) (hr : e.rst = true) :
    step s = .next { State.reset with inputs := rest } := by
  rw [step_of_inputs h]
  simp [edge, hr, State.resetEdge]

theorem step_quiet (h : s.inputs = e :: rest) (hr : e.rst = false) (hp : s.ph = .idle) (hv : e.cmdValid = false) :
    step s = .next { s with inputs := rest } := by
  rw [step_of_inputs h]
  simp [edge, hr, hp, hv]

theorem step_ks (h : s.inputs = e :: rest) (hr : e.rst = false) (hp : s.ph = .ks) :
    step s = .next (ksStep { s with inputs := rest }) := by
  rw [step_of_inputs h]
  simp [edge, hr, hp]

theorem step_rnd (h : s.inputs = e :: rest) (hr : e.rst = false) (hp : s.ph = .rnd) :
    step s = .next (rndStep { s with inputs := rest }) := by
  rw [step_of_inputs h]
  simp [edge, hr, hp]

theorem step_fin (h : s.inputs = e :: rest) (hr : e.rst = false) (hp : s.ph = .fin) :
    step s = .next (finStep { s with inputs := rest }) := by
  rw [step_of_inputs h]
  simp [edge, hr, hp]

/-! The work of the invariant: it changes only where a command is accepted. -/

theorem Work.next_of_not_accepted {w : Work} (h : accepts s.sampled s = false) : w.next s = w := by
  simp [Work.next, h]

theorem Work.next_of_busy {w : Work} (h : s.ph ≠ .idle) : w.next s = w :=
  Work.next_of_not_accepted (by simp [accepts, h])

/-- Where a command is accepted, the new work is read off the decoded command. -/
theorem Work.next_of_accepted {w : Work} (h : accepts s.sampled s = true) :
    (∀ x, decode s.sampled.beat = .enc 64 x → s.kvalid = true → w.next s = { w with block := x, dir := .encrypt }) ∧
    (∀ x, decode s.sampled.beat = .dec 64 x → s.kvalid = true → w.next s = { w with block := x, dir := .decrypt }) ∧
    (∀ key, decode s.sampled.beat = .derive 64 key → w.next s = { w with key := key }) ∧
    (∀ ignored idx data, decode s.sampled.beat = .rdk ignored idx data → w.next s = w) := by
  refine ⟨fun x hd hk => ?_, fun x hd hk => ?_, fun key hd => ?_, fun a b c hd => ?_⟩ <;> simp [Work.next, *]

end Sys2Proof
end

