-- ==== Sys2Proof/Laws/State.lean ====
section
/-! SUPPORT. One lemma per field per update of the state: what each named operation leaves in each field. -/

namespace Sys2Proof.Machine

variable (s : State)

/-! ### setSubkey -/

@[simp] theorem State.setSubkey_rk (i : Fin 16) (k : Subkey) : (s.setSubkey i k).rk = s.rk.set i.val k i.isLt := rfl
@[simp] theorem State.setSubkey_kvalid (i : Fin 16) (k : Subkey) : (s.setSubkey i k).kvalid = s.kvalid := rfl
@[simp] theorem State.setSubkey_c (i : Fin 16) (k : Subkey) : (s.setSubkey i k).c = s.c := rfl
@[simp] theorem State.setSubkey_d (i : Fin 16) (k : Subkey) : (s.setSubkey i k).d = s.d := rfl
@[simp] theorem State.setSubkey_l (i : Fin 16) (k : Subkey) : (s.setSubkey i k).l = s.l := rfl
@[simp] theorem State.setSubkey_r (i : Fin 16) (k : Subkey) : (s.setSubkey i k).r = s.r := rfl
@[simp] theorem State.setSubkey_dir (i : Fin 16) (k : Subkey) : (s.setSubkey i k).dir = s.dir := rfl
@[simp] theorem State.setSubkey_ph (i : Fin 16) (k : Subkey) : (s.setSubkey i k).ph = s.ph := rfl
@[simp] theorem State.setSubkey_cnt (i : Fin 16) (k : Subkey) : (s.setSubkey i k).cnt = s.cnt := rfl
@[simp] theorem State.setSubkey_rspValid (i : Fin 16) (k : Subkey) : (s.setSubkey i k).rspValid = s.rspValid := rfl
@[simp] theorem State.setSubkey_rspErr (i : Fin 16) (k : Subkey) : (s.setSubkey i k).rspErr = s.rspErr := rfl
@[simp] theorem State.setSubkey_rspData (i : Fin 16) (k : Subkey) : (s.setSubkey i k).rspData = s.rspData := rfl
@[simp] theorem State.setSubkey_inputs (i : Fin 16) (k : Subkey) : (s.setSubkey i k).inputs = s.inputs := rfl

/-! ### setKeyHalves -/

@[simp] theorem State.setKeyHalves_rk (cd : KeyHalf × KeyHalf) : (s.setKeyHalves cd).rk = s.rk := rfl
@[simp] theorem State.setKeyHalves_kvalid (cd : KeyHalf × KeyHalf) : (s.setKeyHalves cd).kvalid = s.kvalid := rfl
@[simp] theorem State.setKeyHalves_c (cd : KeyHalf × KeyHalf) : (s.setKeyHalves cd).c = cd.1 := rfl
@[simp] theorem State.setKeyHalves_d (cd : KeyHalf × KeyHalf) : (s.setKeyHalves cd).d = cd.2 := rfl
@[simp] theorem State.setKeyHalves_l (cd : KeyHalf × KeyHalf) : (s.setKeyHalves cd).l = s.l := rfl
@[simp] theorem State.setKeyHalves_r (cd : KeyHalf × KeyHalf) : (s.setKeyHalves cd).r = s.r := rfl
@[simp] theorem State.setKeyHalves_dir (cd : KeyHalf × KeyHalf) : (s.setKeyHalves cd).dir = s.dir := rfl
@[simp] theorem State.setKeyHalves_ph (cd : KeyHalf × KeyHalf) : (s.setKeyHalves cd).ph = s.ph := rfl
@[simp] theorem State.setKeyHalves_cnt (cd : KeyHalf × KeyHalf) : (s.setKeyHalves cd).cnt = s.cnt := rfl
@[simp] theorem State.setKeyHalves_rspValid (cd : KeyHalf × KeyHalf) : (s.setKeyHalves cd).rspValid = s.rspValid := rfl
@[simp] theorem State.setKeyHalves_rspErr (cd : KeyHalf × KeyHalf) : (s.setKeyHalves cd).rspErr = s.rspErr := rfl
@[simp] theorem State.setKeyHalves_rspData (cd : KeyHalf × KeyHalf) : (s.setKeyHalves cd).rspData = s.rspData := rfl
@[simp] theorem State.setKeyHalves_inputs (cd : KeyHalf × KeyHalf) : (s.setKeyHalves cd).inputs = s.inputs := rfl

/-! ### setHalves -/

@[simp] theorem State.setHalves_rk (lr : Half × Half) : (s.setHalves lr).rk = s.rk := rfl
@[simp] theorem State.setHalves_kvalid (lr : Half × Half) : (s.setHalves lr).kvalid = s.kvalid := rfl
@[simp] theorem State.setHalves_c (lr : Half × Half) : (s.setHalves lr).c = s.c := rfl
@[simp] theorem State.setHalves_d (lr : Half × Half) : (s.setHalves lr).d = s.d := rfl
@[simp] theorem State.setHalves_l (lr : Half × Half) : (s.setHalves lr).l = lr.1 := rfl
@[simp] theorem State.setHalves_r (lr : Half × Half) : (s.setHalves lr).r = lr.2 := rfl
@[simp] theorem State.setHalves_dir (lr : Half × Half) : (s.setHalves lr).dir = s.dir := rfl
@[simp] theorem State.setHalves_ph (lr : Half × Half) : (s.setHalves lr).ph = s.ph := rfl
@[simp] theorem State.setHalves_cnt (lr : Half × Half) : (s.setHalves lr).cnt = s.cnt := rfl
@[simp] theorem State.setHalves_rspValid (lr : Half × Half) : (s.setHalves lr).rspValid = s.rspValid := rfl
@[simp] theorem State.setHalves_rspErr (lr : Half × Half) : (s.setHalves lr).rspErr = s.rspErr := rfl
@[simp] theorem State.setHalves_rspData (lr : Half × Half) : (s.setHalves lr).rspData = s.rspData := rfl
@[simp] theorem State.setHalves_inputs (lr : Half × Half) : (s.setHalves lr).inputs = s.inputs := rfl

/-! ### setDir -/

@[simp] theorem State.setDir_rk (x : Direction) : (s.setDir x).rk = s.rk := rfl
@[simp] theorem State.setDir_kvalid (x : Direction) : (s.setDir x).kvalid = s.kvalid := rfl
@[simp] theorem State.setDir_c (x : Direction) : (s.setDir x).c = s.c := rfl
@[simp] theorem State.setDir_d (x : Direction) : (s.setDir x).d = s.d := rfl
@[simp] theorem State.setDir_l (x : Direction) : (s.setDir x).l = s.l := rfl
@[simp] theorem State.setDir_r (x : Direction) : (s.setDir x).r = s.r := rfl
@[simp] theorem State.setDir_dir (x : Direction) : (s.setDir x).dir = x := rfl
@[simp] theorem State.setDir_ph (x : Direction) : (s.setDir x).ph = s.ph := rfl
@[simp] theorem State.setDir_cnt (x : Direction) : (s.setDir x).cnt = s.cnt := rfl
@[simp] theorem State.setDir_rspValid (x : Direction) : (s.setDir x).rspValid = s.rspValid := rfl
@[simp] theorem State.setDir_rspErr (x : Direction) : (s.setDir x).rspErr = s.rspErr := rfl
@[simp] theorem State.setDir_rspData (x : Direction) : (s.setDir x).rspData = s.rspData := rfl
@[simp] theorem State.setDir_inputs (x : Direction) : (s.setDir x).inputs = s.inputs := rfl

/-! ### setKvalid -/

@[simp] theorem State.setKvalid_rk (b : Bool) : (s.setKvalid b).rk = s.rk := rfl
@[simp] theorem State.setKvalid_kvalid (b : Bool) : (s.setKvalid b).kvalid = b := rfl
@[simp] theorem State.setKvalid_c (b : Bool) : (s.setKvalid b).c = s.c := rfl
@[simp] theorem State.setKvalid_d (b : Bool) : (s.setKvalid b).d = s.d := rfl
@[simp] theorem State.setKvalid_l (b : Bool) : (s.setKvalid b).l = s.l := rfl
@[simp] theorem State.setKvalid_r (b : Bool) : (s.setKvalid b).r = s.r := rfl
@[simp] theorem State.setKvalid_dir (b : Bool) : (s.setKvalid b).dir = s.dir := rfl
@[simp] theorem State.setKvalid_ph (b : Bool) : (s.setKvalid b).ph = s.ph := rfl
@[simp] theorem State.setKvalid_cnt (b : Bool) : (s.setKvalid b).cnt = s.cnt := rfl
@[simp] theorem State.setKvalid_rspValid (b : Bool) : (s.setKvalid b).rspValid = s.rspValid := rfl
@[simp] theorem State.setKvalid_rspErr (b : Bool) : (s.setKvalid b).rspErr = s.rspErr := rfl
@[simp] theorem State.setKvalid_rspData (b : Bool) : (s.setKvalid b).rspData = s.rspData := rfl
@[simp] theorem State.setKvalid_inputs (b : Bool) : (s.setKvalid b).inputs = s.inputs := rfl

/-! ### goto -/

@[simp] theorem State.goto_rk (p : Phase) (n : Fin 16) : (s.goto p n).rk = s.rk := rfl
@[simp] theorem State.goto_kvalid (p : Phase) (n : Fin 16) : (s.goto p n).kvalid = s.kvalid := rfl
@[simp] theorem State.goto_c (p : Phase) (n : Fin 16) : (s.goto p n).c = s.c := rfl
@[simp] theorem State.goto_d (p : Phase) (n : Fin 16) : (s.goto p n).d = s.d := rfl
@[simp] theorem State.goto_l (p : Phase) (n : Fin 16) : (s.goto p n).l = s.l := rfl
@[simp] theorem State.goto_r (p : Phase) (n : Fin 16) : (s.goto p n).r = s.r := rfl
@[simp] theorem State.goto_dir (p : Phase) (n : Fin 16) : (s.goto p n).dir = s.dir := rfl
@[simp] theorem State.goto_ph (p : Phase) (n : Fin 16) : (s.goto p n).ph = p := rfl
@[simp] theorem State.goto_cnt (p : Phase) (n : Fin 16) : (s.goto p n).cnt = n := rfl
@[simp] theorem State.goto_rspValid (p : Phase) (n : Fin 16) : (s.goto p n).rspValid = s.rspValid := rfl
@[simp] theorem State.goto_rspErr (p : Phase) (n : Fin 16) : (s.goto p n).rspErr = s.rspErr := rfl
@[simp] theorem State.goto_rspData (p : Phase) (n : Fin 16) : (s.goto p n).rspData = s.rspData := rfl
@[simp] theorem State.goto_inputs (p : Phase) (n : Fin 16) : (s.goto p n).inputs = s.inputs := rfl

/-! ### clearResponse -/

@[simp] theorem State.clearResponse_rk : (s.clearResponse).rk = s.rk := rfl
@[simp] theorem State.clearResponse_kvalid : (s.clearResponse).kvalid = s.kvalid := rfl
@[simp] theorem State.clearResponse_c : (s.clearResponse).c = s.c := rfl
@[simp] theorem State.clearResponse_d : (s.clearResponse).d = s.d := rfl
@[simp] theorem State.clearResponse_l : (s.clearResponse).l = s.l := rfl
@[simp] theorem State.clearResponse_r : (s.clearResponse).r = s.r := rfl
@[simp] theorem State.clearResponse_dir : (s.clearResponse).dir = s.dir := rfl
@[simp] theorem State.clearResponse_ph : (s.clearResponse).ph = s.ph := rfl
@[simp] theorem State.clearResponse_cnt : (s.clearResponse).cnt = s.cnt := rfl
@[simp] theorem State.clearResponse_rspValid : (s.clearResponse).rspValid = false := rfl
@[simp] theorem State.clearResponse_rspErr : (s.clearResponse).rspErr = .ok := rfl
@[simp] theorem State.clearResponse_rspData : (s.clearResponse).rspData = 0#64 := rfl
@[simp] theorem State.clearResponse_inputs : (s.clearResponse).inputs = s.inputs := rfl

/-! ### raise -/

@[simp] theorem State.raise_rk (e : ErrorKind) : (s.raise e).rk = s.rk := rfl
@[simp] theorem State.raise_kvalid (e : ErrorKind) : (s.raise e).kvalid = s.kvalid := rfl
@[simp] theorem State.raise_c (e : ErrorKind) : (s.raise e).c = s.c := rfl
@[simp] theorem State.raise_d (e : ErrorKind) : (s.raise e).d = s.d := rfl
@[simp] theorem State.raise_l (e : ErrorKind) : (s.raise e).l = s.l := rfl
@[simp] theorem State.raise_r (e : ErrorKind) : (s.raise e).r = s.r := rfl
@[simp] theorem State.raise_dir (e : ErrorKind) : (s.raise e).dir = s.dir := rfl
@[simp] theorem State.raise_ph (e : ErrorKind) : (s.raise e).ph = s.ph := rfl
@[simp] theorem State.raise_cnt (e : ErrorKind) : (s.raise e).cnt = s.cnt := rfl
@[simp] theorem State.raise_rspValid (e : ErrorKind) : (s.raise e).rspValid = true := rfl
@[simp] theorem State.raise_rspErr (e : ErrorKind) : (s.raise e).rspErr = .error e := rfl
@[simp] theorem State.raise_rspData (e : ErrorKind) : (s.raise e).rspData = 0#64 := rfl
@[simp] theorem State.raise_inputs (e : ErrorKind) : (s.raise e).inputs = s.inputs := rfl

/-! ### respondOk -/

@[simp] theorem State.respondOk_rk (x : Block) : (s.respondOk x).rk = s.rk := rfl
@[simp] theorem State.respondOk_kvalid (x : Block) : (s.respondOk x).kvalid = s.kvalid := rfl
@[simp] theorem State.respondOk_c (x : Block) : (s.respondOk x).c = s.c := rfl
@[simp] theorem State.respondOk_d (x : Block) : (s.respondOk x).d = s.d := rfl
@[simp] theorem State.respondOk_l (x : Block) : (s.respondOk x).l = s.l := rfl
@[simp] theorem State.respondOk_r (x : Block) : (s.respondOk x).r = s.r := rfl
@[simp] theorem State.respondOk_dir (x : Block) : (s.respondOk x).dir = s.dir := rfl
@[simp] theorem State.respondOk_ph (x : Block) : (s.respondOk x).ph = s.ph := rfl
@[simp] theorem State.respondOk_cnt (x : Block) : (s.respondOk x).cnt = s.cnt := rfl
@[simp] theorem State.respondOk_rspValid (x : Block) : (s.respondOk x).rspValid = true := rfl
@[simp] theorem State.respondOk_rspErr (x : Block) : (s.respondOk x).rspErr = .ok := rfl
@[simp] theorem State.respondOk_rspData (x : Block) : (s.respondOk x).rspData = x := rfl
@[simp] theorem State.respondOk_inputs (x : Block) : (s.respondOk x).inputs = s.inputs := rfl

/-! ### markResponse -/

@[simp] theorem State.markResponse_rk : (s.markResponse).rk = s.rk := rfl
@[simp] theorem State.markResponse_kvalid : (s.markResponse).kvalid = s.kvalid := rfl
@[simp] theorem State.markResponse_c : (s.markResponse).c = s.c := rfl
@[simp] theorem State.markResponse_d : (s.markResponse).d = s.d := rfl
@[simp] theorem State.markResponse_l : (s.markResponse).l = s.l := rfl
@[simp] theorem State.markResponse_r : (s.markResponse).r = s.r := rfl
@[simp] theorem State.markResponse_dir : (s.markResponse).dir = s.dir := rfl
@[simp] theorem State.markResponse_ph : (s.markResponse).ph = s.ph := rfl
@[simp] theorem State.markResponse_cnt : (s.markResponse).cnt = s.cnt := rfl
@[simp] theorem State.markResponse_rspValid : (s.markResponse).rspValid = true := rfl
@[simp] theorem State.markResponse_rspErr : (s.markResponse).rspErr = s.rspErr := rfl
@[simp] theorem State.markResponse_rspData : (s.markResponse).rspData = s.rspData := rfl
@[simp] theorem State.markResponse_inputs : (s.markResponse).inputs = s.inputs := rfl

/-! ### setRspData -/

@[simp] theorem State.setRspData_rk (x : Block) : (s.setRspData x).rk = s.rk := rfl
@[simp] theorem State.setRspData_kvalid (x : Block) : (s.setRspData x).kvalid = s.kvalid := rfl
@[simp] theorem State.setRspData_c (x : Block) : (s.setRspData x).c = s.c := rfl
@[simp] theorem State.setRspData_d (x : Block) : (s.setRspData x).d = s.d := rfl
@[simp] theorem State.setRspData_l (x : Block) : (s.setRspData x).l = s.l := rfl
@[simp] theorem State.setRspData_r (x : Block) : (s.setRspData x).r = s.r := rfl
@[simp] theorem State.setRspData_dir (x : Block) : (s.setRspData x).dir = s.dir := rfl
@[simp] theorem State.setRspData_ph (x : Block) : (s.setRspData x).ph = s.ph := rfl
@[simp] theorem State.setRspData_cnt (x : Block) : (s.setRspData x).cnt = s.cnt := rfl
@[simp] theorem State.setRspData_rspValid (x : Block) : (s.setRspData x).rspValid = s.rspValid := rfl
@[simp] theorem State.setRspData_rspErr (x : Block) : (s.setRspData x).rspErr = s.rspErr := rfl
@[simp] theorem State.setRspData_rspData (x : Block) : (s.setRspData x).rspData = x := rfl
@[simp] theorem State.setRspData_inputs (x : Block) : (s.setRspData x).inputs = s.inputs := rfl

/-! ### consumeInput -/

@[simp] theorem State.consumeInput_rk : (s.consumeInput).rk = s.rk := rfl
@[simp] theorem State.consumeInput_kvalid : (s.consumeInput).kvalid = s.kvalid := rfl
@[simp] theorem State.consumeInput_c : (s.consumeInput).c = s.c := rfl
@[simp] theorem State.consumeInput_d : (s.consumeInput).d = s.d := rfl
@[simp] theorem State.consumeInput_l : (s.consumeInput).l = s.l := rfl
@[simp] theorem State.consumeInput_r : (s.consumeInput).r = s.r := rfl
@[simp] theorem State.consumeInput_dir : (s.consumeInput).dir = s.dir := rfl
@[simp] theorem State.consumeInput_ph : (s.consumeInput).ph = s.ph := rfl
@[simp] theorem State.consumeInput_cnt : (s.consumeInput).cnt = s.cnt := rfl
@[simp] theorem State.consumeInput_rspValid : (s.consumeInput).rspValid = s.rspValid := rfl
@[simp] theorem State.consumeInput_rspErr : (s.consumeInput).rspErr = s.rspErr := rfl
@[simp] theorem State.consumeInput_rspData : (s.consumeInput).rspData = s.rspData := rfl
@[simp] theorem State.consumeInput_inputs : (s.consumeInput).inputs = s.inputs.tail := rfl

/-! ### resetEdge -/

@[simp] theorem State.resetEdge_rk : (s.resetEdge).rk = State.reset.rk := rfl
@[simp] theorem State.resetEdge_kvalid : (s.resetEdge).kvalid = State.reset.kvalid := rfl
@[simp] theorem State.resetEdge_c : (s.resetEdge).c = State.reset.c := rfl
@[simp] theorem State.resetEdge_d : (s.resetEdge).d = State.reset.d := rfl
@[simp] theorem State.resetEdge_l : (s.resetEdge).l = State.reset.l := rfl
@[simp] theorem State.resetEdge_r : (s.resetEdge).r = State.reset.r := rfl
@[simp] theorem State.resetEdge_dir : (s.resetEdge).dir = State.reset.dir := rfl
@[simp] theorem State.resetEdge_ph : (s.resetEdge).ph = State.reset.ph := rfl
@[simp] theorem State.resetEdge_cnt : (s.resetEdge).cnt = State.reset.cnt := rfl
@[simp] theorem State.resetEdge_rspValid : (s.resetEdge).rspValid = State.reset.rspValid := rfl
@[simp] theorem State.resetEdge_rspErr : (s.resetEdge).rspErr = State.reset.rspErr := rfl
@[simp] theorem State.resetEdge_rspData : (s.resetEdge).rspData = State.reset.rspData := rfl
@[simp] theorem State.resetEdge_inputs : (s.resetEdge).inputs = s.inputs := rfl

/-! ### the pairs and the register file -/

@[simp] theorem State.keyPair_fst : s.keyPair.1 = s.c := rfl
@[simp] theorem State.keyPair_snd : s.keyPair.2 = s.d := rfl
@[simp] theorem State.halves_fst : s.halves.1 = s.l := rfl
@[simp] theorem State.halves_snd : s.halves.2 = s.r := rfl

theorem State.subkey_setSubkey (i j : Fin 16) (k : Subkey) :
    (s.setSubkey i k).subkey j = if i = j then k else s.subkey j := by
  simp [State.subkey, subkeyAt, State.setSubkey, Vector.getElem_set, Fin.ext_iff]

/-- The value an update chain leaves in RK is read through `subkey` alone. -/
theorem State.subkey_congr {t : State} (h : t.rk = s.rk) (i : Fin 16) : t.subkey i = s.subkey i := by
  simp [State.subkey, h]

/-- Two key sets with the same sixteen subkeys are the same key set. -/
theorem RoundKeySet.ext_subkeys {a b : RoundKeySet} (h : ∀ i, subkeyAt a i = subkeyAt b i) : a = b :=
  Vector.ext fun i hi => h ⟨i, hi⟩

end Sys2Proof.Machine
end

