-- ==== Sys2Proof/Laws/Tables.lean ====
section
/-! SUPPORT. The facts of 40_tables.md R108 that are finite checks of the entries, in the words of `TableFacts`; what
makes PERM injective; and the agreement of the two forms of the S-boxes (R107). -/

namespace Sys2Proof.Machine

/-- R107: the flat form and the row and column form are the same function. -/
theorem flatEntry_eq : ∀ (j : Fin 8) (g : BitVec 6), flatEntry j g = sboxEntry j (sboxRow g) (sboxCol g) := by
  decide +kernel

/-- R108 item 1. -/
theorem table_sizes :
    EntriesIn pc1 64 ∧ EntriesIn pc2 56 ∧ IsPermutation ip ∧ IsPermutation fp ∧
    EntriesIn expansion 32 ∧ Covers expansion 32 ∧ IsPermutation pbox := by
  decide +kernel

/-- IP, FP and P name every input position: with R108 item 1, what makes them bijections. -/
theorem permutations_cover : Covers ip 64 ∧ Covers fp 64 ∧ Covers pbox 32 := by
  decide +kernel

/-- R108 item 2. -/
theorem ip_fp_entries : ∀ i : Fin 64,
    fp.toList[(ip[i.val]'i.isLt) - 1]? = some (i.val + 1) ∧ ip.toList[(fp[i.val]'i.isLt) - 1]? = some (i.val + 1) := by
  decide +kernel

/-- R108 item 3: the bits at both ends of each group of four are the ones duplicated. -/
theorem expansion_duplicates :
    duplicated expansion 32 = [0, 3, 4, 7, 8, 11, 12, 15, 16, 19, 20, 23, 24, 27, 28, 31] := by
  decide +kernel

/-- R108 item 4. -/
theorem shifts_one_or_two : ∀ n : Fin 16, shiftAmount n = 1 ∨ shiftAmount n = 2 := by
  decide +kernel

/-- R108 item 5. -/
theorem sbox_range (j : Fin 8) (row : BitVec 2) (col : BitVec 4) : (sboxEntry j row col).toNat ≤ 15 :=
  Nat.le_of_lt_succ (sboxEntry j row col).isLt

/-- R108 item 6. -/
theorem pc1_omits : OmitsExactly pc1 64 [8, 16, 24, 32, 40, 48, 56, 64] := by
  decide +kernel

/-- R108 item 7. -/
theorem pc2_omits : OmitsExactly pc2 56 [9, 18, 22, 25, 35, 38, 43, 54] := by
  decide +kernel

/-- R108 item 8, the sum. -/
theorem shifts_sum : shiftSchedule.toList.sum = 28 := by
  decide +kernel

/-- R108 item 9. -/
theorem sbox_rows (j : Fin 8) (row : BitVec 2) : Function.Bijective (sboxEntry j row) := by
  have inj : ∀ (j : Fin 8) (row : BitVec 2) (a b : BitVec 4), sboxEntry j row a = sboxEntry j row b → a = b := by
    decide +kernel
  have surj : ∀ (j : Fin 8) (row : BitVec 2) (v : BitVec 4), ∃ col, sboxEntry j row col = v := by decide +kernel
  exact ⟨fun a b => inj j row a b, surj j row⟩

/-- PERM with a table that names every input position loses no bit (R10). -/
theorem perm_injective {m n : Nat} {table : Vector Nat m} (h : Covers table n) :
    Function.Injective fun v : BitVec n => perm table v := by
  intro v w e
  refine eq_of_dbit fun i h1 hn => ?_
  obtain ⟨k, hk, e2⟩ := List.getElem_of_mem (h ⟨i - 1, by omega⟩)
  have hk' : k < m := by simpa using hk
  have e1 := congrArg (fun u : BitVec m => u.getMsbD k) e
  simp only [getMsbD_perm _ _ _ hk'] at e1
  have : table[k] = i := by
    rw [Vector.getElem_toList] at e2
    simp only [e2]
    omega
  rwa [this] at e1

end Sys2Proof.Machine
end

