-- ==== Sys2Proof/Tests/Slice0.lean ====
section
/-! SUPPORT. Tests of the model. Each expected value is the spec's: a vector V<n> of 95_test_vectors.md, or a word written
out from the encodings of 30_encoding.md. The second half shows, for each obligation with hypotheses, that something meets
them all together. -/

-- One theorem after the other: side by side, each waits in a thread of its own for the one before it.
set_option Elab.async false

namespace Sys2Proof.Tests

open Sys2Proof.Machine

/-! ### Helpers -/

/-- The key set of V2, in the order of RK. -/
def keySetV2 : RoundKeySet :=
  #v[ 0x1B02EFFC7072#48, 0x79AED9DBC9E5#48, 0x55FC8A42CF99#48, 0x72ADD6DB351D#48,
     0x7CEC07EB53A8#48, 0x63A53E507B2F#48, 0xEC84B7F618BC#48, 0xF78A3AC13BFB#48,
     0xE0DBEBEDE781#48, 0xB1F347BA464F#48, 0x215FD3DED386#48, 0x7571F59467E9#48,
     0x97C5D1FABA41#48, 0x5F43B7F2E73A#48, 0xBF918D3D3F0A#48, 0xCB3D8B0E17F5#48 ]

/-- The reset state with the key set of V2 installed. -/
def keyed : State := { State.reset with rk := keySetV2, kvalid := true }

/-- A state in phase `ph` at count `n`, with the key set of V2 in RK. -/
def busy (ph : Phase) (n : Fin 16) : State := { State.reset with rk := keySetV2, ph := ph, cnt := n }

/-- What `exec` or `step` leaves, for tests; the state it started from where there is no next state. -/
def after (o : Host.Outcome State Fault Refusal) : State :=
  match o with
  | .next t => t
  | _ => State.reset

/-- The triple of response registers. -/
def response (s : State) : Bool × Status × Block := (s.rspValid, s.rspErr, s.rspData)

/-! ### Well-formedness: `len` has seven bits (R73) -/

theorem test_illformed_enc : (Instr.enc 128 0#64).wellFormed = false := by decide
theorem test_illformed_dec : (Instr.dec 128 0#64).wellFormed = false := by decide
theorem test_illformed_derive : (Instr.derive 128 0#64).wellFormed = false := by decide
theorem test_wellformed_bounds :
    (Instr.enc 127 0#64).WellFormed ∧ (Instr.dec 0 0#64).WellFormed ∧ (Instr.derive 127 0#64).WellFormed ∧
    (Instr.rdk 0b111#3 15 0#64).WellFormed := by decide

/-! ### Command words, bit by bit (R71 to R74, V14) -/

theorem test_decode_enc : decode { cmd := 0b001000000#9, data := 7#64 } = .enc 64 7#64 := by decide
theorem test_decode_enc_short : decode { cmd := 0b000111111#9, data := 7#64 } = .enc 63 7#64 := by decide
theorem test_decode_dec : decode { cmd := 0b011000000#9, data := 7#64 } = .dec 64 7#64 := by decide
theorem test_decode_derive : decode { cmd := 0b101000000#9, data := 7#64 } = .derive 64 7#64 := by decide
theorem test_decode_derive_long : decode { cmd := 0b101111111#9, data := 7#64 } = .derive 127 7#64 := by decide
theorem test_decode_rdk : decode { cmd := 0b110001111#9, data := 7#64 } = .rdk 0b000#3 15 7#64 := by decide
theorem test_decode_rdk_ignored : decode { cmd := 0b111110101#9, data := 7#64 } = .rdk 0b111#3 5 7#64 := by decide
theorem test_encode_words :
    (encode (.enc 64 0#64)).cmd = 0x040#9 ∧ (encode (.dec 64 0#64)).cmd = 0x0C0#9 ∧
    (encode (.derive 65 0#64)).cmd = 0x141#9 ∧ (encode (.rdk 0b111#3 5 0#64)).cmd = 0x1F5#9 := by decide
theorem test_word_too_wide : decodeNumber 512 0#64 = .error .widerThanNineBits := by rfl
theorem test_table_words :
    decodeTableWord 16 0x0C0 = some (.dec 64 0#64) ∧ decodeTableWord 16 0x1FF = some (.rdk 0b111#3 15 0#64) ∧
    decodeTableWord 16 0x200 = none := by decide

/-! ### Bits, tables and pure functions -/

/-- V10: the bits shifted out come back, and nothing spills over bit 27. -/
theorem test_rol28 :
    rol28 0x8000000#28 1 = 0x0000001#28 ∧ rol28 0x4000000#28 2 = 0x0000001#28 ∧
    rol28 0xF0CCAAF#28 1 = 0xE19955F#28 ∧ rol28 0xC332ABF#28 2 = 0x0CCAAFF#28 := by decide +kernel

/-- V9: one bit of each table and the full words. -/
theorem test_perm_ip_fp :
    (perm ip 0x0123456789ABCDEF#64 : Block) = 0xCC00CCFFF0AAF0AA#64 ∧
    (perm fp 0x0123456789ABCDEF#64 : Block) = 0xFF330FAA00330FAA#64 ∧
    (perm ip 0x0000000000000001#64 : Block) = 0x0000008000000000#64 ∧
    (perm fp 0x8000000000000000#64 : Block) = 0x0000000000000040#64 := by decide +kernel

theorem test_perm_keys :
    (perm pc1 0x133457799BBCDFF1#64 : BitVec 56) = 0xF0CCAAF556678F#56 ∧
    (perm pc1 0x0101010101010101#64 : BitVec 56) = 0#56 ∧
    (perm pc2 0xE19955FAACCF1E#56 : Subkey) = 0x1B02EFFC7072#48 ∧
    (perm pc2 0x00000000000001#56 : Subkey) = 0x000000000100#48 := by decide +kernel

theorem test_perm_round :
    (perm expansion 0x12345678#32 : BitVec 48) = 0x0A41A82AC3F0#48 ∧
    (perm expansion 0x80000001#32 : BitVec 48) = 0xC00000000003#48 ∧
    (perm pbox 0x5C82B597#32 : Half) = 0x234AA9BB#32 ∧ (perm pbox 0x12345678#32 : Half) = 0x6E34140E#32 := by
  decide +kernel

/-- V11: rows and columns; the row is g[5]‖g[0], not g[0]‖g[5], and the column g[4:1], not g[3:0]. -/
theorem test_sbox :
    sboxEntry 0 (sboxRow 0b100000#6) (sboxCol 0b100000#6) = 4#4 ∧
    sboxEntry 0 (sboxRow 0b000010#6) (sboxCol 0b000010#6) = 4#4 ∧
    sboxEntry 4 (sboxRow 0b101101#6) (sboxCol 0b101101#6) = 2#4 ∧
    sboxEntry 7 (sboxRow 0b111111#6) (sboxCol 0b111111#6) = 11#4 := by decide +kernel

/-- V12. -/
theorem test_feistel :
    feistel 0x12345678#32 0x0123456789AB#48 = 0xCA23B070#32 ∧
    feistel 0x00000000#32 0xFFFFFFFFFFFF#48 = 0x38DBF9CB#32 := by decide +kernel

/-- V13. -/
theorem test_round :
    feistelRound (0xCC00CCFF#32, 0xF0AAF0AA#32) 0x1B02EFFC7072#48 = (0xF0AAF0AA#32, 0xEF4A6544#32) ∧
    feistelRound (0x12345678#32, 0x9ABCDEF0#32) 0#48 = (0x9ABCDEF0#32, 0x6137852C#32) := by decide +kernel

/-- V2. -/
theorem test_key_schedule : keySchedule 0x133457799BBCDFF1#64 = keySetV2 := by decide +kernel
theorem test_key_halves_10 : keyHalves 0x133457799BBCDFF1#64 10 = (0x55FE199#28, 0xF1EAACC#28) := by decide +kernel

/-- V1, the one vector of the source. -/
theorem test_encrypt : encrypt 0x0123456789ABCDEF#64 keySetV2 = 0x85E813540F0AB405#64 := by decide +kernel
theorem test_decrypt : decrypt 0x85E813540F0AB405#64 keySetV2 = 0x0123456789ABCDEF#64 := by decide +kernel

/-- V7: the all-zero key and block, and the all-one key with the zero block. -/
theorem test_encrypt_corners :
    encrypt 0#64 (keySchedule 0#64) = 0x8CA64DE9C1B123A7#64 ∧
    encrypt 0#64 (keySchedule 0xFFFFFFFFFFFFFFFF#64) = 0xCAAAAF4DEAF1DBAE#64 := by decide +kernel

/-- V15. -/
theorem test_bytes :
    blockOfBytes #v[0x01#8, 0x23#8, 0x45#8, 0x67#8, 0x89#8, 0xAB#8, 0xCD#8, 0xEF#8] = 0x0123456789ABCDEF#64 ∧
    bytesOfBlock 0x85E813540F0AB405#64 = #v[0x85#8, 0xE8#8, 0x13#8, 0x54#8, 0x0F#8, 0x0A#8, 0xB4#8, 0x05#8] ∧
    dbit 0x0123456789ABCDEF#64 8 = true ∧ dbit 0x0123456789ABCDEF#64 9 = false := by decide +kernel

/-! ### One command, one edge -/

/-- V16: both causes apply and the length wins; with the right length the missing key set is reported. -/
theorem test_enc_refused :
    response (after (exec (.enc 63 0#64) State.reset)) = (true, .error .invalidBlockLength, 0#64) ∧
    response (after (exec (.enc 64 0#64) State.reset)) = (true, .error .noKey, 0#64) := by decide +kernel

/-- V17 edge 22. -/
theorem test_enc_accepted :
    (after (exec (.enc 64 0x0123456789ABCDEF#64) keyed)).halves = (0xCC00CCFF#32, 0xF0AAF0AA#32) ∧
    (after (exec (.enc 64 0x0123456789ABCDEF#64) keyed)).ph = .rnd := by decide +kernel

theorem test_dec_refused :
    response (after (exec (.dec 65 0#64) keyed)) = (true, .error .invalidBlockLength, 0#64) ∧
    response (after (exec (.dec 64 0#64) State.reset)) = (true, .error .noKey, 0#64) := by decide +kernel

/-- V17 edge 42. -/
theorem test_dec_accepted :
    (after (exec (.dec 64 0x85E813540F0AB405#64) keyed)).halves = (0x0A4CD995#32, 0x43423234#32) ∧
    (after (exec (.dec 64 0x85E813540F0AB405#64) keyed)).dir = .decrypt := by decide +kernel

/-- V16: the installed key set survives a refused DERIVE. -/
theorem test_derive_refused :
    response (after (exec (.derive 63 0#64) keyed)) = (true, .error .invalidKeyLength, 0#64) ∧
    (after (exec (.derive 63 0#64) keyed)).kvalid = true := by decide +kernel

/-- V17 edge 4. -/
theorem test_derive_accepted :
    (after (exec (.derive 64 0x133457799BBCDFF1#64) keyed)).keyPair = (0xF0CCAAF#28, 0x556678F#28) ∧
    (after (exec (.derive 64 0x133457799BBCDFF1#64) keyed)).kvalid = false := by decide +kernel

theorem test_rdk_no_key : response (after (exec (.rdk 0#3 15 0#64) State.reset)) = (true, .error .noKey, 0#64) := by
  decide +kernel

/-- V17 edge 41. -/
theorem test_rdk : response (after (exec (.rdk 0b111#3 15 0xAAAAAAAAAAAAAAAA#64) keyed)) =
    (true, .ok, 0x0000CB3D8B0E17F5#64) := by decide +kernel

/-- V17 edge 7: KS step 3. -/
theorem test_ks_step :
    (after (step { busy .ks 2 with c := 0xC332ABF#28, d := 0x5599E3D#28 })).keyPair = (0x0CCAAFF#28, 0x56678F5#28) ∧
    (after (step { busy .ks 2 with c := 0xC332ABF#28, d := 0x5599E3D#28 })).subkey 2 = 0x55FC8A42CF99#48 := by
  decide +kernel

/-- V17 edge 43: the first round of a decryption uses RK[15]. -/
theorem test_rnd_step :
    (after (step { busy .rnd 0 with dir := .decrypt, l := 0x0A4CD995#32, r := 0x43423234#32 })).halves =
      (0x43423234#32, 0xC28C960D#32) := by decide +kernel

/-- V17 edge 39: the right half goes first. -/
theorem test_fin_step :
    response (after (step { busy .fin 0 with l := 0x43423234#32, r := 0x0A4CD995#32 })) =
      (true, .ok, 0x85E813540F0AB405#64) := by decide +kernel

/-- V17 edge 46: reset wins over the command and over the phase. -/
theorem test_reset_wins :
    after (step { busy .rnd 3 with inputs := [{ rst := true, cmdValid := true, cmd := 0x040#9, cmdData := 1#64 }] }) =
      State.reset := by decide +kernel

/-- V17 edge 6: the ENC presented at a KS step is ignored. -/
theorem test_busy_ignores :
    (after (step { busy .ks 1 with inputs := [EdgeInput.present (encode (.enc 64 1#64))] })).ph = .ks := by
  decide +kernel

/-- P2 at command level: lines 1, 5 and 8 of the script. -/
theorem test_script :
    response (runScript [.enc 0x0123456789ABCDEF#64, .derive 0x133457799BBCDFF1#64, .rdk 3] State.reset) =
      (true, .ok, 0x000072ADD6DB351D#64) := by decide +kernel

/-! ### Witnesses: for each obligation with hypotheses, a concrete case that meets them together -/

/-- `n` quiet edges. -/
def quietEdges (n : Nat) : List EdgeInput := List.replicate n EdgeInput.quiet

/-- `n` edges at which a DERIVE is presented, as in V19. -/
def pressingEdges (n : Nat) : List EdgeInput :=
  List.replicate n (EdgeInput.present (encode (.derive 64 0xFFFFFFFFFFFFFFFF#64)))

/-- `s` with the beat of `i` at its next edge and then `later`. -/
def awaiting (s : State) (i : Instr) (later : List EdgeInput) : State :=
  { s with inputs := EdgeInput.present (encode i) :: later }

theorem witness_DecodeOfEncodeIsInstruction :
    (Instr.enc 127 5#64).WellFormed ∧ (Instr.dec 0 5#64).WellFormed ∧ (Instr.derive 64 5#64).WellFormed ∧
    (Instr.rdk 0b101#3 15 5#64).WellFormed := by decide

theorem witness_WordFieldsByPlaceValue :
    (0x07F#9).toNat / 128 = 0 ∧ (0x080#9).toNat / 128 = 1 ∧ (0x17F#9).toNat / 128 = 2 ∧ (0x180#9).toNat / 128 = 3 := by
  decide

theorem witness_OpcodeMapNamesTheMnemonic : ∃ row ∈ opcodeRows, row.mnemonic = "RDK" ∧ row.covers 0x1FF#9 = true :=
  ⟨_, .tail _ (.tail _ (.tail _ (.head _))), rfl, by decide⟩

theorem witness_PlacedTableWordRuns : (511 : Nat) < 512 := by decide

theorem witness_StepRunsDecodedInstruction :
    (awaiting keyed (.enc 64 5#64) []).inputs = EdgeInput.present (encode (.enc 64 5#64)) :: [] ∧
    (EdgeInput.present (encode (.enc 64 5#64))).rst = false ∧ (awaiting keyed (.enc 64 5#64) []).ph = .idle ∧
    (EdgeInput.present (encode (.enc 64 5#64))).cmdValid = true := by decide

theorem witness_ResetEdgesGiveResetState :
    { busy .ks 7 with inputs := [EdgeInput.resetting, EdgeInput.quiet] }.inputs =
      [EdgeInput.resetting] ++ [EdgeInput.quiet] ∧
    [EdgeInput.resetting] ≠ [] ∧ ∀ e ∈ [EdgeInput.resetting], e.rst = true := by decide

theorem witness_IdleEdgesHoldTheState :
    { keyed with inputs := quietEdges 3 }.inputs = quietEdges 2 ++ quietEdges 1 ∧ keyed.ph = .idle ∧
    ∀ e ∈ quietEdges 2, e.rst = false ∧ e.cmdValid = false := by decide

/-- At both ends of the counter: 15, the last step, and 14. -/
theorem witness_KsStepDerivesOneSubkey :
    { busy .ks 15 with inputs := quietEdges 1 }.inputs = EdgeInput.quiet :: [] ∧ EdgeInput.quiet.rst = false ∧
    (busy .ks 15).ph = .ks ∧ 1 = (if (busy .ks 15).cnt.val ∈ [0, 1, 8, 15] then 1 else 2) ∧ (busy .ks 15).cnt.val = 15 ∧
    2 = (if (busy .ks 14).cnt.val ∈ [0, 1, 8, 15] then 1 else 2) ∧ (busy .ks 14).cnt.val < 15 := by decide

theorem witness_RndStepIsOneRound :
    { busy .rnd 15 with inputs := quietEdges 1 }.inputs = EdgeInput.quiet :: [] ∧ EdgeInput.quiet.rst = false ∧
    (busy .rnd 15).ph = .rnd ∧ (busy .rnd 15).cnt.val = 15 ∧ (busy .rnd 14).cnt.val < 15 ∧
    (15 : Fin 16).val = (if (busy .rnd 15).dir = .decrypt then 15 - (busy .rnd 15).cnt.val else (busy .rnd 15).cnt.val) ∧
    (1 : Fin 16).val = (if Direction.decrypt = .decrypt then 15 - (busy .rnd 14).cnt.val else (busy .rnd 14).cnt.val) := by
  decide

theorem witness_FinStepWritesTheResult :
    { busy .fin 0 with inputs := quietEdges 1 }.inputs = EdgeInput.quiet :: [] ∧ EdgeInput.quiet.rst = false ∧
    (busy .fin 0).ph = .fin := by decide

theorem witness_CommandsWhileBusyAreIgnored :
    (busy .ks 15).ph ≠ .idle ∧ (busy .rnd 0).ph ≠ .idle ∧ (busy .fin 0).ph ≠ .idle ∧
    EdgeInput.quiet.rst = false ∧ (EdgeInput.present (encode (.enc 64 5#64))).rst = false ∧
    (∃ t, step { busy .ks 15 with inputs := [EdgeInput.present (encode (.enc 64 5#64))] } = .next t) ∧
    keyed.ph = .idle ∧ (EdgeInput.present (encode (.enc 64 5#64))).cmdValid = true :=
  ⟨by decide, by decide, by decide, rfl, rfl, ⟨_, rfl⟩, rfl, rfl⟩

/-- Each of the three alternatives. -/
theorem witness_UnusedPortValuesHaveNoEffect :
    EdgeInput.resetting.rst = true ∧ EdgeInput.quiet.cmdValid = false ∧ (busy .fin 0).ph ≠ .idle := by decide

/-- The general hypotheses in each phase, with a next state, and what each row of the table asks beyond them. -/
theorem witness_SequencerTransitions :
    ({ busy .idle 0 with inputs := quietEdges 1 }.inputs = EdgeInput.quiet :: [] ∧ EdgeInput.quiet.rst = false ∧
      ((busy .idle 0).ph = .idle ∨ (busy .idle 0).ph = .fin → (busy .idle 0).cnt = 0) ∧
      ((busy .fin 0).ph = .idle ∨ (busy .fin 0).ph = .fin → (busy .fin 0).cnt = 0) ∧
      ((busy .ks 15).ph = .idle ∨ (busy .ks 15).ph = .fin → (busy .ks 15).cnt = 0) ∧
      ((busy .rnd 14).ph = .idle ∨ (busy .rnd 14).ph = .fin → (busy .rnd 14).cnt = 0)) ∧
    Proceeds (step { busy .idle 0 with inputs := quietEdges 1 }) ∧
    Proceeds (step (awaiting keyed (.enc 64 5#64) [])) ∧
    decode (encode (.enc 64 5#64)) = .enc 64 5#64 ∧ decode (encode (.derive 64 5#64)) = .derive 64 5#64 ∧
    decode (encode (.rdk 0#3 0 5#64)) = .rdk 0#3 0 5#64 ∧ keyed.kvalid = true ∧
    (after (step (awaiting keyed (.enc 63 5#64) []))).rspErr ≠ .ok :=
  ⟨by decide, ⟨_, rfl⟩, ⟨_, rfl⟩, by decide, by decide, by decide, rfl, by decide⟩

theorem witness_TransformAcceptance :
    (63 : Nat) ≠ 64 ∧ (65 : Nat) ≠ 64 ∧ State.reset.kvalid = false ∧ keyed.kvalid = true := by decide

theorem witness_DeriveAcceptance :
    ((63 : Nat) ≠ 64 ∧ (127 : Nat) ≠ 64) ∧ NoReset (pressingEdges 15) ∧ (pressingEdges 15).length ≤ 15 ∧
    ∃ t, exec (.derive 64 5#64) keyed = .next t ∧ ∃ u, run 15 { t with inputs := pressingEdges 15 ++ [] } = .next u := by
  refine ⟨by decide, ?_, by decide, _, rfl, _, rfl⟩
  unfold NoReset
  decide

theorem witness_RdkAnswersTheSubkey : State.reset.kvalid = false ∧ keyed.kvalid = true := by decide

theorem witness_SubkeyIsRightAligned :
    keyed.kvalid = true ∧ ∃ t, exec (.rdk 0#3 15 0#64) keyed = .next t := ⟨rfl, _, rfl⟩

theorem witness_RdkIgnoresTheOtherBits :
    (0x18F#9).toNat / 128 = 3 ∧ (0x1FF#9).toNat / 128 = 3 ∧ (0x18F#9).toNat % 16 = (0x1FF#9).toNat % 16 ∧
    keyed.kvalid = true := by decide

theorem witness_RefusedOperandIsNotUsed : (65 : Nat) ≠ 64 := by decide

/-- An acceptance with each of the four codes. -/
theorem witness_ErrorsAreReportedExactlyWhen :
    (∃ t, exec (.enc 65 5#64) State.reset = .next t ∧ t.rspErr.code = 0b01#2) ∧
    (∃ t, exec (.derive 0 5#64) keyed = .next t ∧ t.rspErr.code = 0b10#2) ∧
    (∃ t, exec (.rdk 0#3 0 5#64) State.reset = .next t ∧ t.rspErr.code = 0b11#2) ∧
    ∃ t, exec (.dec 64 5#64) keyed = .next t ∧ t.rspErr.code = 0b00#2 :=
  ⟨⟨_, rfl, rfl⟩, ⟨_, rfl, rfl⟩, ⟨_, rfl, rfl⟩, ⟨_, rfl, rfl⟩⟩

theorem witness_ErrorsWriteOnlyTheResponse :
    ∃ t, exec (.derive 65 5#64) keyed = .next t ∧ t.rspErr = .error .invalidKeyLength ∧ keyed.ph = .idle :=
  ⟨_, rfl, rfl, rfl⟩

theorem witness_AcceptanceFrames :
    (∃ t, exec (.enc 64 5#64) keyed = .next t) ∧ (∃ t, exec (.dec 64 5#64) keyed = .next t) ∧
    (∃ t, exec (.derive 64 5#64) keyed = .next t) ∧ ∃ t, exec (.rdk 0#3 0 5#64) keyed = .next t :=
  ⟨⟨_, rfl⟩, ⟨_, rfl⟩, ⟨_, rfl⟩, ⟨_, rfl⟩⟩

theorem witness_EncEncryptsTheBlock :
    NoReset (pressingEdges 17) ∧ (pressingEdges 17).length = 17 ∧ (63 : Nat) ≠ 64 ∧ State.reset.kvalid = false ∧
    keyed.kvalid = true ∧ (∀ i : Fin 16, { State.reset with kvalid := true }.subkey i = 0#48) ∧
    (16 : Nat) ≤ 16 ∧ EdgeInput.resetting.rst = true := by
  refine ⟨?_, by decide⟩
  unfold NoReset
  decide

theorem witness_DecDecryptsTheBlock :
    NoReset (pressingEdges 17) ∧ (pressingEdges 17).length = 17 ∧ (65 : Nat) ≠ 64 ∧ State.reset.kvalid = false ∧
    keyed.kvalid = true ∧ (∀ i : Fin 16, { State.reset with kvalid := true }.subkey i = 0#48) ∧
    (16 : Nat) ≤ 16 ∧ EdgeInput.resetting.rst = true := by
  refine ⟨?_, by decide⟩
  unfold NoReset
  decide

theorem witness_DeriveInstallsTheKeySet :
    NoReset (pressingEdges 16) ∧ (pressingEdges 16).length = 16 ∧ (63 : Nat) ≠ 64 ∧ (15 : Nat) ≤ 15 ∧
    EdgeInput.resetting.rst = true := by
  refine ⟨?_, by decide⟩
  unfold NoReset
  decide

theorem witness_CommandLevelAgreesWithTheEdges :
    (Instr.enc 64 5#64).WellFormed ∧ (awaiting keyed (.enc 64 5#64) (pressingEdges 17 ++ [])).ph = .idle ∧
    (awaiting keyed (.enc 64 5#64) (pressingEdges 17 ++ [])).cnt = 0 ∧ NoReset (pressingEdges 17) ∧
    (pressingEdges 17).length = latency (.enc 64 5#64) (awaiting keyed (.enc 64 5#64) (pressingEdges 17 ++ [])) ∧
    (awaiting keyed (.enc 64 5#64) (pressingEdges 17 ++ [])).inputs =
      EdgeInput.present (encode (.enc 64 5#64)) :: (pressingEdges 17 ++ []) := by
  refine ⟨by decide, by decide, by decide, ?_, by decide, by decide⟩
  unfold NoReset
  decide

/-- A transform, a derivation, a refused command and an RDK. -/
theorem witness_LatencyTable :
    (Instr.enc 64 5#64).WellFormed ∧ (awaiting keyed (.enc 64 5#64) (pressingEdges 17 ++ [])).ph = .idle ∧
    NoReset (pressingEdges 17) ∧
    (awaiting keyed (.enc 64 5#64) (pressingEdges 17 ++ [])).inputs =
      EdgeInput.present (encode (.enc 64 5#64)) :: (pressingEdges 17 ++ []) ∧
    (pressingEdges 17).length = (if (64 : Nat) = 64 ∧ keyed.kvalid = true then 17 else 0) ∧
    (quietEdges 16).length = (if (64 : Nat) = 64 then 16 else 0) ∧
    (quietEdges 0).length = (if (63 : Nat) = 64 then 16 else 0) ∧ (quietEdges 0).length = 0 := by
  refine ⟨by decide, by decide, ?_, by decide⟩
  unfold NoReset
  decide

/-- An accepted transform, an accepted derivation and a refused command. -/
theorem witness_EveryCommandAnswersWithinSeventeenEdges :
    keyed.ph = .idle ∧ (∃ t, exec (.enc 64 5#64) keyed = .next t) ∧ (∃ t, exec (.derive 64 5#64) keyed = .next t) ∧
    (∃ t, exec (.dec 63 5#64) keyed = .next t) ∧ (pressingEdges 17).length = 17 ∧ NoReset (pressingEdges 17) := by
  refine ⟨rfl, ⟨_, rfl⟩, ⟨_, rfl⟩, ⟨_, rfl⟩, by decide, ?_⟩
  unfold NoReset
  decide

/-- Two states that differ in C, L and DIR, met by different inputs. -/
theorem witness_ResultDependsOnKeyAndOperandOnly :
    (Instr.dec 64 5#64 = .enc 64 5#64 ∨ Instr.dec 64 5#64 = .dec 64 5#64) ∧
    (awaiting keyed (.dec 64 5#64) (quietEdges 17 ++ [])).ph = .idle ∧
    (awaiting { keyed with c := 1#28, l := 1#32, dir := .decrypt } (.dec 64 5#64) (pressingEdges 17 ++ [])).ph = .idle ∧
    keyed.kvalid = true ∧
    (awaiting keyed (.dec 64 5#64) (quietEdges 17 ++ [])).rk =
      (awaiting { keyed with c := 1#28, l := 1#32, dir := .decrypt } (.dec 64 5#64) (pressingEdges 17 ++ [])).rk ∧
    NoReset (quietEdges 17) ∧ NoReset (pressingEdges 17) ∧
    (quietEdges 17).length = 17 ∧ (pressingEdges 17).length = 17 := by
  refine ⟨by decide, by decide, by decide, by decide, by decide, ?_, ?_, by decide⟩
  all_goals
    unfold NoReset
    decide

theorem witness_PortRoundTrip :
    ∃ y ins, y = encrypt 5#64 (keySchedule 7#64) ∧ State.reset.ph = .idle ∧
      NoReset (quietEdges 16) ∧ NoReset (quietEdges 17) ∧ (quietEdges 16).length = 16 ∧ (quietEdges 17).length = 17 ∧
      { State.reset with inputs := ins }.inputs = EdgeInput.present (encode (.derive 64 7#64)) :: (quietEdges 16 ++
        EdgeInput.present (encode (.enc 64 5#64)) :: (quietEdges 17 ++
        EdgeInput.present (encode (.dec 64 y)) :: (quietEdges 17 ++ []))) := by
  refine ⟨_, _, rfl, rfl, ?_, ?_, by decide, by decide, rfl⟩
  all_goals
    unfold NoReset
    decide

/-- A KS step that changes RK, and a reset that does. -/
theorem witness_OnlyKsStepsWriteTheKeyFile :
    (∃ t, step (busy .ks 3) = .next t ∧ t.rk ≠ (busy .ks 3).rk) ∧
    ∃ t, step { keyed with inputs := [EdgeInput.resetting] } = .next t ∧ t.rk ≠ keyed.rk :=
  ⟨⟨_, rfl, by decide +kernel⟩, ⟨_, rfl, by decide +kernel⟩⟩

theorem witness_KvalidWriters :
    (∃ t, step (busy .ks 15) = .next t ∧ (busy .ks 15).kvalid = false ∧ t.kvalid = true) ∧
    (∃ t, step (awaiting keyed (.derive 64 5#64) []) = .next t ∧ keyed.kvalid = true ∧ t.kvalid = false) ∧
    ∃ t, step { keyed with inputs := [EdgeInput.resetting] } = .next t ∧ keyed.kvalid = true ∧ t.kvalid = false :=
  ⟨⟨_, rfl, rfl, rfl⟩, ⟨_, rfl, rfl, rfl⟩, ⟨_, rfl, rfl, rfl⟩⟩

theorem witness_WorkingRegisterWriters :
    (∃ t, step (awaiting keyed (.derive 64 0x133457799BBCDFF1#64) []) = .next t ∧ (t.c, t.d) ≠ (keyed.c, keyed.d)) ∧
    (∃ t, step (awaiting keyed (.dec 64 0x0123456789ABCDEF#64) []) = .next t ∧ (t.l, t.r) ≠ (keyed.l, keyed.r) ∧
      t.dir ≠ keyed.dir) ∧
    (∃ t, step { busy .ks 0 with c := 1#28 } = .next t ∧ (t.c, t.d) ≠ (1#28, (busy .ks 0).d)) ∧
    (∃ t, step (busy .rnd 0) = .next t ∧ (t.l, t.r) ≠ ((busy .rnd 0).l, (busy .rnd 0).r)) ∧
    (awaiting keyed (.dec 64 0x0123456789ABCDEF#64) []).sampled.rst = false ∧ (busy .ks 0).sampled.rst = false :=
  ⟨⟨_, rfl, by decide +kernel⟩, ⟨_, rfl, by decide +kernel, by decide +kernel⟩, ⟨_, rfl, by decide +kernel⟩,
    ⟨_, rfl, by decide +kernel⟩, rfl, rfl⟩

theorem witness_ResponseWriters :
    (∃ t, step (awaiting State.reset (.rdk 0#3 0 5#64) []) = .next t ∧
      (t.rspValid, t.rspErr, t.rspData) ≠ (State.reset.rspValid, State.reset.rspErr, State.reset.rspData)) ∧
    (∃ t, step (busy .ks 15) = .next t ∧
      (t.rspValid, t.rspErr, t.rspData) ≠ ((busy .ks 15).rspValid, (busy .ks 15).rspErr, (busy .ks 15).rspData)) ∧
    ∃ t, step (busy .fin 0) = .next t ∧
      (t.rspValid, t.rspErr, t.rspData) ≠ ((busy .fin 0).rspValid, (busy .fin 0).rspErr, (busy .fin 0).rspData) :=
  ⟨⟨_, rfl, by decide +kernel⟩, ⟨_, rfl, by decide +kernel⟩, ⟨_, rfl, by decide +kernel⟩⟩

/-- Two different states that agree on what the outputs show. -/
theorem witness_OutputsShowTheStatusOnly :
    keyed ≠ { keyed with c := 1#28, cnt := 3 } ∧ keyed.ph = { keyed with c := 1#28, cnt := 3 }.ph ∧
    keyed.kvalid = { keyed with c := 1#28, cnt := 3 }.kvalid ∧ keyed.rspValid = { keyed with c := 1#28, cnt := 3 }.rspValid ∧
    keyed.rspErr = { keyed with c := 1#28, cnt := 3 }.rspErr ∧
    keyed.rspData = { keyed with c := 1#28, cnt := 3 }.rspData := by decide

/-- Key 7 derived, block 5 in encryption. -/
def work : Work := { key := 7#64, block := 5#64, dir := .encrypt }

/-- In phase KS at count 0: the halves are (C0, D0). -/
theorem inv_ks :
    Inv work { State.reset with ph := .ks, c := (initialKeyHalves work.key).1, d := (initialKeyHalves work.key).2 } where
  control := ⟨by simp, by simp [State.reset], by simp, by simp [State.reset], by simp [State.reset]⟩
  data := ⟨by simp [State.reset], fun _ => ⟨rfl, fun i h => absurd h (Nat.not_lt_zero i.val)⟩, by simp, by simp⟩

/-- In phase RND at count 0, with the key set of a key: the halves are (L0, R0). -/
theorem inv_rnd : Inv work { State.reset with ph := .rnd, kvalid := true, rk := keySchedule work.key,
                                               l := (initialHalves work.block).1, r := (initialHalves work.block).2 } where
  control := ⟨by simp, by simp, by simp [State.reset], by simp [State.reset], by simp [State.reset]⟩
  data := ⟨fun _ => rfl, by simp, fun _ => ⟨rfl, rfl⟩, by simp⟩

/-- In phase FIN: the halves are (L16, R16). -/
theorem inv_fin : Inv work { State.reset with ph := .fin, kvalid := true, rk := keySchedule work.key,
                                               l := (halvesAfter (keySchedule work.key) work.dir (initialHalves work.block) 16).1,
                                               r := (halvesAfter (keySchedule work.key) work.dir (initialHalves work.block) 16).2 } where
  control := ⟨by simp [State.reset], by simp, by simp [State.reset], by simp [State.reset], by simp [State.reset]⟩
  data := ⟨fun _ => rfl, by simp, by simp, fun _ => ⟨rfl, rfl⟩⟩

/-- The invariant is not empty in RND: with another block as the work the same state does not have it. -/
theorem test_inv_rnd_names_the_block :
    ¬ DataInv { work with block := 4#64 } { State.reset with ph := .rnd, kvalid := true, rk := keySchedule work.key,
                                                             l := (initialHalves work.block).1, r := (initialHalves work.block).2 } :=
  fun h => absurd (h.inRnd rfl).2 (by decide +kernel)

theorem witness_ControlInvariantIsKept : ∃ s t, ControlInv s ∧ s.ph = .ks ∧ step s = .next t :=
  ⟨_, _, inv_ks.control, rfl, rfl⟩

/-- In each phase that has work to do, the last with rst = 0; and where a command is accepted. -/
theorem witness_InvariantIsKept :
    (∃ s t, Inv work s ∧ step s = .next t ∧ s.ph = .ks) ∧ (∃ s t, Inv work s ∧ step s = .next t ∧ s.ph = .rnd) ∧
    (∃ s t, Inv work s ∧ step s = .next t ∧ s.ph = .fin ∧ s.sampled.rst = false) ∧
    ∃ s t, Inv work s ∧ step s = .next t ∧ work.next s = { work with key := 9#64 } :=
  ⟨⟨_, _, inv_ks, rfl, rfl⟩, ⟨_, _, inv_rnd, rfl, rfl⟩, ⟨_, _, inv_fin, rfl, rfl, rfl⟩,
    ⟨awaiting State.reset (.derive 64 9#64) [], _,
      { control := ⟨fun _ => rfl, by simp [awaiting, State.reset], by simp [awaiting, State.reset], fun _ => ⟨rfl, rfl⟩,
          fun h => absurd rfl h⟩
        data := ⟨by simp [awaiting, State.reset], by simp [awaiting, State.reset], by simp [awaiting, State.reset],
          by simp [awaiting, State.reset]⟩ }, rfl, by decide⟩⟩

theorem witness_OutputsWhileBusy : ∃ w s, Inv w s ∧ s.ph ≠ .idle := ⟨_, _, inv_rnd, by decide⟩

/-- Two ready states without a key set that differ in RK, C and CNT. -/
theorem witness_ResidualStateIsInvisible :
    { State.reset with rk := keySetV2, c := 1#28, cnt := 3 } ≠ State.reset ∧
    SameToCaller { State.reset with rk := keySetV2, c := 1#28, cnt := 3 } State.reset :=
  ⟨by decide +kernel,
    { readyLeft := rfl, readyRight := rfl, kvalid := rfl, rk := by simp [State.reset], rspValid := rfl, rspErr := rfl,
      rspData := rfl, inputs := rfl }⟩

/-- The first and the last entry of PC-1, at the ends of its range of positions. -/
theorem witness_PermutationInDesNumbering :
    (0 : Nat) < 56 ∧ pc1[0] ∈ Finset.Icc 1 64 ∧ (55 : Nat) < 56 ∧ pc1[55] ∈ Finset.Icc 1 64 := by decide

theorem witness_RotationInDesNumbering :
    ((1 : Nat) = 1 ∨ (1 : Nat) = 2) ∧ ((2 : Nat) = 1 ∨ (2 : Nat) = 2) ∧ (1 : Nat) ≤ 1 ∧ (1 : Nat) ≤ 28 ∧ (28 : Nat) ≤ 28 := by decide

theorem witness_OperandBytesAreBigEndian : (1 : Nat) ≤ 8 ∧ (8 : Nat) ≤ 8 := by decide

/-- V8: two keys that differ in all eight parity positions. -/
theorem witness_ParityBitsDoNotMatter :
    0x133457799BBCDFF1#64 ≠ 0x123456789ABCDEF0#64 ∧
    ∀ i : Fin 65, 1 ≤ i.val → i.val ≤ 64 → i.val % 8 ≠ 0 →
      dbit 0x133457799BBCDFF1#64 i.val = dbit 0x123456789ABCDEF0#64 i.val := by decide +kernel

theorem witness_ConstantHalvesGiveOneSubkey :
    ((initialKeyHalves 0#64).1 = 0#28 ∧ (initialKeyHalves 0#64).2 = 0#28) ∧
    ((initialKeyHalves 0xFEFEFEFEFEFEFEFE#64).1 = BitVec.allOnes 28 ∧
      (initialKeyHalves 0xFEFEFEFEFEFEFEFE#64).2 = BitVec.allOnes 28) := by decide +kernel

theorem witness_FeistelByFlatTables : ∃ x : BitVec 48, x = perm (n := 32) expansion 5#32 ^^^ 7#48 := ⟨_, rfl⟩

theorem witness_RoundUndoneBySwap :
    feistelRound (0xCC00CCFF#32, 0xF0AAF0AA#32) 0x1B02EFFC7072#48 = (0xF0AAF0AA#32, 0xEF4A6544#32) := by decide +kernel

theorem witness_SubkeyOrder : (15 : Fin 16).val = 15 - (0 : Fin 16).val ∧ (0 : Fin 16).val = 15 - (15 : Fin 16).val := by
  decide

theorem witness_LastSwapIsNotUndone :
    ∃ l r, halvesAfter keySetV2 .encrypt (initialHalves 5#64) 15 = (l, r) := ⟨_, _, rfl⟩

end Sys2Proof.Tests
end

section
/-! SUPPORT. The bit operations of 00_scope.md in DES numbering: PERM (R10) and ROL28 (R11). -/

namespace Sys2Proof.Machine

/-- DES bit i + 1 of PERM(T, N, v) is the DES bit of `v` that entry i of the table names (R10). -/
theorem dbit_perm {m n : Nat} (table : Vector Nat m) (v : BitVec n) (i : Nat) (h : i < m) :
    dbit (perm table v) (i + 1) = dbit v table[i] := by
  rw [← getMsbD_eq_dbit _ h, getMsbD_perm]

/-- The mask of R11 already leaves fewer than 29 bits, so the result's 28 bits lose nothing of it. -/
theorem toNat_rol28 (x : KeyHalf) (s : Nat) :
    (rol28 x s).toNat = ((x.toNat <<< s) ||| (x.toNat >>> (28 - s))) &&& 0x0FFFFFFF :=
  Nat.mod_eq_of_lt (Nat.and_lt_two_pow _ (by norm_num))

/-- By fewer than 28 positions ROL28 is the rotation of 28-bit words (R11). -/
theorem rol28_eq_rotateLeft (x : KeyHalf) {s : Nat} (hs : s < 28) : rol28 x s = x.rotateLeft s := by
  rw [rol28_eq, BitVec.rotateLeft_def, Nat.mod_eq_of_lt hs]

/-- DES bit i of ROL28(x, s) is the DES bit s positions to its right, around the end (R11). -/
theorem dbit_rol28 (x : KeyHalf) {s i : Nat} (hs : s < 28) (h1 : 1 ≤ i) (hi : i ≤ 28) :
    dbit (rol28 x s) i = dbit x ((i - 1 + s) % 28 + 1) := by
  have source_lt : (i - 1 + s) % 28 < 28 := Nat.mod_lt _ (by norm_num)
  have position_lt : i - 1 < 28 := by omega
  rw [dbit_eq_getMsbD _ h1 hi, rol28_eq_rotateLeft x hs, BitVec.getMsbD_rotateLeft_of_lt hs,
    ← getMsbD_eq_dbit x source_lt, Nat.add_comm s]
  simp [position_lt]

/-- Settles O45: the second clause is the first with DES bits written as hardware bits (R8). -/
theorem permutationInDesNumbering : Obligations.PermutationInDesNumbering := by
  intro m n table v i h _
  have named := dbit_perm table v i h
  exact ⟨named, named⟩

/-- Settles O46: both rotation amounts are below 28, where ROL28 is a rotation. -/
theorem rotationInDesNumbering : Obligations.RotationInDesNumbering := by
  intro x a ha
  have amount_lt : a < 28 := by omega
  exact ⟨toNat_rol28 x a, fun i h1 hi => dbit_rol28 x amount_lt h1 hi⟩

end Sys2Proof.Machine
end

section
/-! SUPPORT. Everything one step can do to the state (44_sequencer.md R171 to R180): the inversion lemma of `step`. -/

namespace Sys2Proof.Machine

/-- What the edge at `s` leaves, one constructor for each thing an edge can do, with the condition under which it does
it. Every value is written over `s` by the named operations, so their simp lemmas (Laws/State) read its fields. -/
inductive StepEffect (s : State) : State → Prop
  /-- R231. -/
  | reset (rst : s.sampled.rst = true) : StepEffect s s.consumeInput.resetEdge
  /-- A command refused (R206). -/
  | refuse (acc : accepts s.sampled s = true) (e : ErrorKind) : StepEffect s (s.consumeInput.raise e)
  /-- ENC or DEC accepted without error (R174). -/
  | loadBlock (acc : accepts s.sampled s = true) (key : s.kvalid = true) (dir : Direction) (block : Block)
      (cmd : (decode s.sampled.beat = .enc 64 block ∧ dir = .encrypt) ∨
        (decode s.sampled.beat = .dec 64 block ∧ dir = .decrypt)) :
      StepEffect s (((s.consumeInput.clearResponse.setHalves (initialHalves block)).setDir dir).goto .rnd 0)
  /-- DERIVE accepted without error (R175). -/
  | loadKey (acc : accepts s.sampled s = true) (key : Block) (cmd : decode s.sampled.beat = .derive 64 key) :
      StepEffect s
        (((s.consumeInput.clearResponse.setKeyHalves (initialKeyHalves key)).setKvalid false).goto .ks 0)
  /-- RDK accepted without error (R176). -/
  | answerSubkey (acc : accepts s.sampled s = true) (key : s.kvalid = true) (ignored : BitVec 3) (idx : Fin 16)
      (data : Block) (cmd : decode s.sampled.beat = .rdk ignored idx data) :
      StepEffect s (s.consumeInput.respondOk (presentSubkey (s.subkey idx)))
  /-- Nothing presented (R180). -/
  | hold (rst : s.sampled.rst = false) (ph : s.ph = .idle) (quiet : s.sampled.cmdValid = false) :
      StepEffect s s.consumeInput
  /-- A KS step that is not the last (R177). -/
  | keyRound (rst : s.sampled.rst = false) (ph : s.ph = .ks) (cnt : s.cnt ≠ 15) (cd : KeyHalf × KeyHalf)
      (rotated : cd = rotateKeyHalves s.cnt s.keyPair) :
      StepEffect s (((s.consumeInput.setKeyHalves cd).setSubkey s.cnt (selectSubkey cd)).goto .ks (s.cnt + 1))
  /-- The last KS step (R177). -/
  | lastKeyRound (rst : s.sampled.rst = false) (ph : s.ph = .ks) (cnt : s.cnt = 15) (cd : KeyHalf × KeyHalf)
      (rotated : cd = rotateKeyHalves s.cnt s.keyPair) :
      StepEffect s ((((s.consumeInput.setKeyHalves cd).setSubkey s.cnt (selectSubkey cd)).goto .idle 0).setKvalid
        true).markResponse
  /-- An RND step that is not the last (R178). -/
  | blockRound (rst : s.sampled.rst = false) (ph : s.ph = .rnd) (cnt : s.cnt ≠ 15) :
      StepEffect s ((s.consumeInput.setHalves
        (feistelRound s.halves (s.subkey (subkeyIndex s.dir s.cnt)))).goto .rnd (s.cnt + 1))
  /-- The last RND step (R178). -/
  | lastBlockRound (rst : s.sampled.rst = false) (ph : s.ph = .rnd) (cnt : s.cnt = 15) :
      StepEffect s ((s.consumeInput.setHalves
        (feistelRound s.halves (s.subkey (subkeyIndex s.dir s.cnt)))).goto .fin 0)
  /-- The FIN step (R179). -/
  | finish (rst : s.sampled.rst = false) (ph : s.ph = .fin) :
      StepEffect s (((s.consumeInput.setRspData (finalBlock s.halves)).markResponse).goto .idle s.cnt)

theorem accepts_iff {e : EdgeInput} {s : State} :
    accepts e s = true ↔ e.rst = false ∧ s.ph = .idle ∧ e.cmdValid = true := by
  simp [accepts, and_assoc]

/-- Every step with a next state has one of the effects. -/
theorem stepEffect_of_step {s t : State} (h : step s = .next t) : StepEffect s t := by
  rcases edge_cases h with ⟨rst, rfl⟩ | ⟨rst, ph, valid, he⟩ | ⟨rst, ph, quiet, rfl⟩ | ⟨rst, ph, rfl⟩ |
    ⟨rst, ph, rfl⟩ | ⟨rst, ph, rfl⟩
  · exact .reset rst
  · have acc := accepts_iff.2 ⟨rst, ph, valid⟩
    rcases exec_cases he with ⟨e, rfl⟩ | ⟨dir, block, cmd, key, rfl⟩ | ⟨key, cmd, rfl⟩ |
      ⟨ignored, idx, data, cmd, key, rfl⟩
    · exact .refuse acc e
    · exact .loadBlock acc key dir block cmd
    · exact .loadKey acc key cmd
    · exact .answerSubkey acc key ignored idx data cmd
  · exact .hold rst ph quiet
  · rcases ksStep_cases s.consumeInput with ⟨cnt, e⟩ | ⟨cnt, e⟩ <;> rw [e]
    · exact .lastKeyRound rst ph cnt _ rfl
    · exact .keyRound rst ph cnt _ rfl
  · rcases rndStep_cases s.consumeInput with ⟨cnt, e⟩ | ⟨cnt, e⟩ <;> rw [e]
    · exact .lastBlockRound rst ph cnt
    · exact .blockRound rst ph cnt
  · exact .finish rst ph

end Sys2Proof.Machine
end

section
/-! SUPPORT. Who writes what (10_state.md sections 2, 3 and 6): each proof names the effects that write the field; under
the others the simp lemmas of the operations leave it unchanged. -/

namespace Sys2Proof.Machine

variable {s t : State}

/-- Writing RK[i] leaves every other subkey (R21). -/
theorem subkey_setSubkey_of_ne (k : Subkey) {i j : Fin 16} (h : j ≠ i) : (s.setSubkey i k).subkey j = s.subkey j := by
  rw [State.subkey_setSubkey, if_neg h.symm]

/-- Settles O35: the two KS effects are the only ones, beside reset, that write RK. -/
theorem onlyKsStepsWriteTheKeyFile : Obligations.OnlyKsStepsWriteTheKeyFile := by
  intro s t h changed
  cases stepEffect_of_step h with
  | reset rst => exact .inl rst
  | keyRound _ ph | lastKeyRound _ ph => exact .inr ⟨ph, fun i hi => subkey_setSubkey_of_ne _ hi⟩
  | refuse | loadBlock | loadKey | answerSubkey | hold | blockRound | lastBlockRound | finish =>
    exact absurd (by simp) changed

/-- KVALID rises at the last KS step only (R22). -/
theorem lastKs_of_kvalid_raised (h : step s = .next t) (before : s.kvalid = false) (after : t.kvalid = true) :
    s.ph = .ks ∧ s.cnt.val = 15 := by
  cases stepEffect_of_step h with
  | lastKeyRound _ ph cnt => exact ⟨ph, congrArg Fin.val cnt⟩
  | reset | loadKey => simp [State.reset] at after
  | refuse | loadBlock | answerSubkey | hold | keyRound | blockRound | lastBlockRound | finish =>
    simp [before] at after

/-- KVALID falls at a reset and at the acceptance of a key only (R22). -/
theorem reset_or_derive_of_kvalid_lowered (h : step s = .next t) (before : s.kvalid = true)
    (after : t.kvalid = false) :
    s.sampled.rst = true ∨ (accepts s.sampled s = true ∧ ∃ key, decode s.sampled.beat = .derive 64 key) := by
  cases stepEffect_of_step h with
  | reset rst => exact .inl rst
  | loadKey acc key cmd => exact .inr ⟨acc, key, cmd⟩
  | lastKeyRound => simp at after
  | refuse | loadBlock | answerSubkey | hold | keyRound | blockRound | lastBlockRound | finish =>
    simp [before] at after

/-- Settles O36: one lemma a direction. -/
theorem kvalidWriters : Obligations.KvalidWriters := fun _ _ h =>
  ⟨lastKs_of_kvalid_raised h, reset_or_derive_of_kvalid_lowered h⟩

/-- Without a reset, C and D are written by the KS steps and the acceptance of a key only (R23). -/
theorem ks_or_derive_of_keyHalves_changed (h : step s = .next t) (rst : s.sampled.rst = false)
    (changed : (t.c, t.d) ≠ (s.c, s.d)) :
    s.ph = .ks ∨ (accepts s.sampled s = true ∧ ∃ key, decode s.sampled.beat = .derive 64 key) := by
  cases stepEffect_of_step h with
  | reset rst' => exact absurd (rst.symm.trans rst') Bool.false_ne_true
  | keyRound _ ph | lastKeyRound _ ph => exact .inl ph
  | loadKey acc key cmd => exact .inr ⟨acc, key, cmd⟩
  | refuse | loadBlock | answerSubkey | hold | blockRound | lastBlockRound | finish => exact absurd (by simp) changed

/-- Without a reset, L and R are written by the RND steps and the acceptance of a block only (R24). -/
theorem rnd_or_transform_of_halves_changed (h : step s = .next t) (rst : s.sampled.rst = false)
    (changed : (t.l, t.r) ≠ (s.l, s.r)) :
    s.ph = .rnd ∨ (accepts s.sampled s = true ∧ s.kvalid = true ∧
      ∃ x, decode s.sampled.beat = .enc 64 x ∨ decode s.sampled.beat = .dec 64 x) := by
  cases stepEffect_of_step h with
  | reset rst' => exact absurd (rst.symm.trans rst') Bool.false_ne_true
  | blockRound _ ph | lastBlockRound _ ph => exact .inl ph
  | loadBlock acc key dir block cmd => exact .inr ⟨acc, key, block, cmd.imp And.left And.left⟩
  | refuse | loadKey | answerSubkey | hold | keyRound | lastKeyRound | finish => exact absurd (by simp) changed

/-- Without a reset, DIR is written by the acceptance of a block only (R25). -/
theorem transform_of_dir_changed (h : step s = .next t) (rst : s.sampled.rst = false) (changed : t.dir ≠ s.dir) :
    accepts s.sampled s = true ∧ s.kvalid = true ∧
      ∃ x, decode s.sampled.beat = .enc 64 x ∨ decode s.sampled.beat = .dec 64 x := by
  cases stepEffect_of_step h with
  | reset rst' => exact absurd (rst.symm.trans rst') Bool.false_ne_true
  | loadBlock acc key dir block cmd => exact ⟨acc, key, block, cmd.imp And.left And.left⟩
  | refuse | loadKey | answerSubkey | hold | keyRound | lastKeyRound | blockRound | lastBlockRound | finish =>
    exact absurd (by simp) changed

/-- Settles O37: one lemma for each register or pair of registers. -/
theorem workingRegisterWriters : Obligations.WorkingRegisterWriters := fun _ _ h rst =>
  ⟨ks_or_derive_of_keyHalves_changed h rst, rnd_or_transform_of_halves_changed h rst,
    transform_of_dir_changed h rst⟩

/-- Settles O38: an edge that does not reset, accept or end a command leaves the response registers. -/
theorem responseWriters : Obligations.ResponseWriters := by
  intro s t h changed
  cases stepEffect_of_step h with
  | reset rst => exact .inl rst
  | refuse acc | loadBlock acc | loadKey acc | answerSubkey acc => exact .inr (.inl acc)
  | lastKeyRound _ ph cnt => exact .inr (.inr (.inl ⟨ph, congrArg Fin.val cnt⟩))
  | finish _ ph => exact .inr (.inr (.inr ph))
  | hold | keyRound | blockRound | lastBlockRound => exact absurd (by simp) changed

end Sys2Proof.Machine
end

section
/-! SUPPORT. The reset state (10_state.md R35), the outputs (R33) and the inputs an edge does not use (R32). -/

namespace Sys2Proof.Machine

@[simp] theorem State.reset_subkey (i : Fin 16) : State.reset.subkey i = 0#48 := by
  simp [State.subkey, subkeyAt, State.reset]

/-- Settles O9: the subkeys by the lemma above, the other fields as RESET_STATE lists them. -/
theorem resetStateFields : Obligations.ResetStateFields :=
  ⟨State.reset_subkey, rfl, rfl, rfl, rfl, rfl, rfl, rfl, rfl, rfl, rfl, rfl, rfl⟩

/-- No item of R36 about the control registers asks anything of RESET_STATE but zeros. -/
theorem controlInv_reset : ControlInv State.reset where
  cntZero _ := rfl
  inKs ph := Phase.noConfusion ph
  inTransform ph := ph.elim Phase.noConfusion Phase.noConfusion
  noResponse _ := ⟨rfl, rfl⟩
  errorShown err := absurd rfl err

/-- RESET_STATE holds no key set and has no command in execution, so it says nothing of any work. -/
theorem dataInv_reset (w : Work) : DataInv w State.reset where
  keySet key := absurd key Bool.false_ne_true
  inKs ph := Phase.noConfusion ph
  inRnd ph := Phase.noConfusion ph
  inFin ph := Phase.noConfusion ph

/-- Settles O40: the items about control and the items about data. -/
theorem invariantAtReset : Obligations.InvariantAtReset := fun w => ⟨controlInv_reset, dataInv_reset w⟩

/-- States that agree on the five fields the outputs show have the same outputs (R33). -/
theorem outputs_congr {s t : State} (ph : s.ph = t.ph) (kvalid : s.kvalid = t.kvalid)
    (rspValid : s.rspValid = t.rspValid) (rspErr : s.rspErr = t.rspErr) (rspData : s.rspData = t.rspData) :
    outputs s = outputs t := by
  simp only [outputs, ph, kvalid, rspValid, rspErr, rspData]

@[simp] theorem outputs_cmdReady_iff {s : State} : (outputs s).cmdReady = true ↔ s.ph = .idle :=
  decide_eq_true_iff

theorem outputs_busy (s : State) : (outputs s).busy = !(outputs s).cmdReady := decide_not

/-- Settles O39: `busy` is computed from PH on its own and is the complement of `cmd_ready` all the same. -/
theorem outputsShowTheStatusOnly : Obligations.OutputsShowTheStatusOnly :=
  ⟨fun s => ⟨outputs_cmdReady_iff, outputs_busy s, rfl, rfl, rfl, rfl⟩, fun _ _ => outputs_congr⟩

/-- An edge that resets, or at which nothing is presented, or in a busy phase, does not look at `cmd` and `cmd_data`
(R32). -/
theorem edge_unused_port {s : State} {e : EdgeInput} (w : CmdWord) (x : Block)
    (unused : e.rst = true ∨ e.cmdValid = false ∨ s.ph ≠ .idle) :
    edge e s = edge { e with cmd := w, cmdData := x } s := by
  rcases unused with rst | quiet | busy
  · simp [edge, rst]
  · simp [edge, quiet]
  · cases ph : s.ph with
    | idle => exact absurd ph busy
    | ks | rnd | fin => simp [edge, ph]

/-- Settles O16: the step takes the listed edge. -/
theorem unusedPortValuesHaveNoEffect : Obligations.UnusedPortValuesHaveNoEffect := by
  intro s e w x rest unused
  rw [step_of_inputs rfl, step_of_inputs rfl]
  exact edge_unused_port w x unused

end Sys2Proof.Machine
end

section
/-! SUPPORT. What the outputs show while a command is in execution (44_sequencer.md section 5): the control items of R36
fix every field they show. -/

namespace Sys2Proof

open Sys2Proof.Machine

/-- In every busy phase the control items of R36 leave the response registers at zero. -/
theorem ControlInv.response_zero_of_busy {s : State} (h : ControlInv s) (busy : s.ph ≠ .idle) :
    s.rspValid = false ∧ s.rspErr = .ok ∧ s.rspData = 0#64 := by
  have noAnswer : s.rspValid = false := by
    cases ph : s.ph with
    | idle => exact absurd ph busy
    | ks => exact (h.inKs ph).2
    | rnd => exact (h.inTransform (.inl ph)).2.1
    | fin => exact (h.inTransform (.inr ph)).2.1
  exact ⟨noAnswer, h.noResponse noAnswer⟩

/-- While busy, KVALID is 0 exactly in phase KS (R36). -/
theorem ControlInv.kvalid_of_busy {s : State} (h : ControlInv s) (busy : s.ph ≠ .idle) :
    s.kvalid = decide (s.ph ≠ .ks) := by
  cases ph : s.ph with
  | idle => exact absurd ph busy
  | ks => exact (h.inKs ph).1
  | rnd => exact (h.inTransform (.inl ph)).1
  | fin => exact (h.inTransform (.inr ph)).1

/-- Settles O43: the control items of R36 fix every field the outputs show. -/
theorem outputsWhileBusy : Obligations.OutputsWhileBusy := by
  intro w s inv busy
  obtain ⟨rspValid, rspErr, rspData⟩ := inv.control.response_zero_of_busy busy
  simp only [outputs, inv.control.kvalid_of_busy busy, rspValid, rspErr, rspData, busy, Status.code,
    decide_false, ne_eq, not_false_eq_true, decide_true]

end Sys2Proof
end

section
/-! SUPPORT. Residual register contents never reach an output (10_state.md R37): a relation between two states that
every edge keeps and that gives the same outputs. -/

namespace Sys2Proof.Machine

/-- What `SameToCaller` asks, without the phase IDLE: the fields the outputs show, the inputs, and RK where a key set is
installed. -/
structure SameStatus (s t : State) : Prop where
  ph : s.ph = t.ph
  kvalid : s.kvalid = t.kvalid
  rk : s.kvalid = true → s.rk = t.rk
  rspValid : s.rspValid = t.rspValid
  rspErr : s.rspErr = t.rspErr
  rspData : s.rspData = t.rspData
  inputs : s.inputs = t.inputs

/-- `SameToCaller` carried through the busy phases: the working registers agree where the command in execution has
loaded them. -/
structure SameInUse (s t : State) : Prop extends SameStatus s t where
  /-- In KS: the count, the halves, and the subkeys already derived; the others are still residue. -/
  inKs : s.ph = .ks → s.cnt = t.cnt ∧ s.keyPair = t.keyPair ∧ ∀ i < s.cnt, s.subkey i = t.subkey i
  /-- In RND: the count, the halves, the direction, and the key set. -/
  inRnd : s.ph = .rnd → s.cnt = t.cnt ∧ s.halves = t.halves ∧ s.dir = t.dir ∧ s.rk = t.rk
  /-- In FIN: the halves. -/
  inFin : s.ph = .fin → s.halves = t.halves

/-! One rule per operation: what it keeps of the status. Where the value written is residue, the two may differ. -/

namespace SameStatus

variable {s t : State}

theorem outputs_eq (h : SameStatus s t) : outputs s = outputs t :=
  outputs_congr h.ph h.kvalid h.rspValid h.rspErr h.rspData

theorem sampled_eq (h : SameStatus s t) : s.sampled = t.sampled := by
  simp only [State.sampled, h.inputs]

theorem consumeInput (h : SameStatus s t) : SameStatus s.consumeInput t.consumeInput :=
  { h with inputs := congrArg List.tail h.inputs }

theorem setSubkey (h : SameStatus s t) (i : Fin 16) (k : Subkey) : SameStatus (s.setSubkey i k) (t.setSubkey i k) :=
  { h with rk := fun key => congrArg (fun keys : RoundKeySet => keys.set i.val k) (h.rk key) }

theorem setKeyHalves (h : SameStatus s t) (cd cd' : KeyHalf × KeyHalf) :
    SameStatus (s.setKeyHalves cd) (t.setKeyHalves cd') :=
  { h with }

theorem setHalves (h : SameStatus s t) (lr lr' : Half × Half) : SameStatus (s.setHalves lr) (t.setHalves lr') :=
  { h with }

theorem setDir (h : SameStatus s t) (dir dir' : Direction) : SameStatus (s.setDir dir) (t.setDir dir') :=
  { h with }

/-- A key set may be declared installed only where the two agree. -/
theorem setKvalid (h : SameStatus s t) {b : Bool} (rk : b = true → s.rk = t.rk) :
    SameStatus (s.setKvalid b) (t.setKvalid b) :=
  { h with kvalid := rfl, rk }

theorem goto (h : SameStatus s t) (ph : Phase) (n n' : Fin 16) : SameStatus (s.goto ph n) (t.goto ph n') :=
  { h with ph := rfl }

theorem clearResponse (h : SameStatus s t) : SameStatus s.clearResponse t.clearResponse :=
  { h with rspValid := rfl, rspErr := rfl, rspData := rfl }

theorem raise (h : SameStatus s t) (e : ErrorKind) : SameStatus (s.raise e) (t.raise e) :=
  { h with rspValid := rfl, rspErr := rfl, rspData := rfl }

theorem respondOk (h : SameStatus s t) (x : Block) : SameStatus (s.respondOk x) (t.respondOk x) :=
  { h with rspValid := rfl, rspErr := rfl, rspData := rfl }

theorem markResponse (h : SameStatus s t) : SameStatus s.markResponse t.markResponse :=
  { h with rspValid := rfl }

theorem setRspData (h : SameStatus s t) (x : Block) : SameStatus (s.setRspData x) (t.setRspData x) :=
  { h with rspData := rfl }

/-- In phase IDLE nothing but the status is asked. -/
theorem inUse_of_idle (h : SameStatus s t) (idle : s.ph = .idle) : SameInUse s t where
  toSameStatus := h
  inKs ks := Phase.noConfusion (idle.symm.trans ks)
  inRnd rnd := Phase.noConfusion (idle.symm.trans rnd)
  inFin fin := Phase.noConfusion (idle.symm.trans fin)

theorem inUse_of_ks (h : SameStatus s t) (ks : s.ph = .ks) (cnt : s.cnt = t.cnt) (keyPair : s.keyPair = t.keyPair)
    (derived : ∀ i < s.cnt, s.subkey i = t.subkey i) : SameInUse s t where
  toSameStatus := h
  inKs _ := ⟨cnt, keyPair, derived⟩
  inRnd rnd := Phase.noConfusion (ks.symm.trans rnd)
  inFin fin := Phase.noConfusion (ks.symm.trans fin)

theorem inUse_of_rnd (h : SameStatus s t) (rnd : s.ph = .rnd) (cnt : s.cnt = t.cnt) (halves : s.halves = t.halves)
    (dir : s.dir = t.dir) (rk : s.rk = t.rk) : SameInUse s t where
  toSameStatus := h
  inKs ks := Phase.noConfusion (rnd.symm.trans ks)
  inRnd _ := ⟨cnt, halves, dir, rk⟩
  inFin fin := Phase.noConfusion (rnd.symm.trans fin)

theorem inUse_of_fin (h : SameStatus s t) (fin : s.ph = .fin) (halves : s.halves = t.halves) : SameInUse s t where
  toSameStatus := h
  inKs ks := Phase.noConfusion (fin.symm.trans ks)
  inRnd rnd := Phase.noConfusion (fin.symm.trans rnd)
  inFin _ := halves

theorem of_sameToCaller (h : SameToCaller s t) : SameStatus s t :=
  { h with ph := h.readyLeft.trans h.readyRight.symm }

end SameStatus

namespace SameInUse

variable {s t : State}

theorem resetEdge (h : SameInUse s t) : SameInUse s.resetEdge t.resetEdge :=
  SameStatus.inUse_of_idle ⟨rfl, rfl, fun _ => rfl, rfl, rfl, rfl, h.inputs⟩ rfl

theorem consumeInput (h : SameInUse s t) : SameInUse s.consumeInput t.consumeInput where
  toSameStatus := h.toSameStatus.consumeInput
  inKs := h.inKs
  inRnd := h.inRnd
  inFin := h.inFin

/-! The acceptance of each command keeps the relation. -/

/-- A block is taken only where a key set is installed, and there the sets agree. -/
theorem acceptTransform (h : SameInUse s t) (idle : s.ph = .idle) (dir : Direction) (len : Nat) (block : Block) :
    SameInUse (acceptTransform dir len block s) (acceptTransform dir len block t) := by
  simp only [Machine.acceptTransform, ← h.kvalid]
  split_ifs with short noKey
  · exact (h.clearResponse.raise _).inUse_of_idle idle
  · exact (h.clearResponse.raise _).inUse_of_idle idle
  · have sameKeys : s.rk = t.rk := h.rk (eq_true_of_ne_false noKey)
    exact (((h.clearResponse.setHalves _ _).setDir _ _).goto _ _ _).inUse_of_rnd rfl rfl rfl rfl sameKeys

/-- The key set is given up, so nothing is asked of RK, and no subkey of the new key is derived yet. -/
theorem acceptDerive (h : SameInUse s t) (idle : s.ph = .idle) (len : Nat) (key : Block) :
    SameInUse (acceptDerive len key s) (acceptDerive len key t) := by
  simp only [Machine.acceptDerive]
  split_ifs with short
  · exact (h.clearResponse.raise _).inUse_of_idle idle
  · have loaded := ((h.clearResponse.setKeyHalves (initialKeyHalves key) (initialKeyHalves key)).setKvalid
      fun installed => absurd installed Bool.false_ne_true).goto .ks 0 0
    exact loaded.inUse_of_ks rfl rfl rfl fun i derived => absurd derived (Fin.not_lt_zero i)

/-- RDK shows a subkey only where a key set is installed, and there the sets agree. -/
theorem acceptRdk (h : SameInUse s t) (idle : s.ph = .idle) (idx : Fin 16) :
    SameInUse (acceptRdk idx s) (acceptRdk idx t) := by
  simp only [Machine.acceptRdk, ← h.kvalid]
  split_ifs with noKey
  · exact (h.clearResponse.raise _).inUse_of_idle idle
  · have sameKeys : s.rk = t.rk := h.rk (eq_true_of_ne_false noKey)
    rw [State.subkey_congr _ sameKeys]
    exact (h.clearResponse.respondOk _).inUse_of_idle idle

/-! The steps of a command in execution keep it. -/

/-- A KS step at CNT makes one more subkey agree. -/
theorem subkey_setSubkey_eq {n : Fin 16} (k : Subkey) (h : ∀ i < n, s.subkey i = t.subkey i) :
    ∀ i ≤ n, (s.setSubkey n k).subkey i = (t.setSubkey n k).subkey i := by
  intro i hi
  rw [State.subkey_setSubkey, State.subkey_setSubkey]
  split_ifs with written
  · rfl
  · exact h i (lt_of_le_of_ne hi (Ne.symm written))

theorem ksStep (h : SameInUse s t) (ks : s.ph = .ks) : SameInUse (ksStep s) (ksStep t) := by
  obtain ⟨cnt, keyPair, derived⟩ := h.inKs ks
  simp only [Machine.ksStep, ← cnt, ← keyPair]
  generalize rotateKeyHalves s.cnt s.keyPair = cd
  have derivedNow := subkey_setSubkey_eq (s := s.setKeyHalves cd) (t := t.setKeyHalves cd) (selectSubkey cd) derived
  have written := (h.setKeyHalves cd cd).setSubkey s.cnt (selectSubkey cd)
  split_ifs with last
  · have allDerived := RoundKeySet.ext_subkeys fun i => derivedNow i (last ▸ Fin.le_last i)
    exact (((written.goto .idle 0 0).setKvalid fun _ => allDerived).markResponse).inUse_of_idle rfl
  · exact (written.goto _ _ _).inUse_of_ks rfl rfl rfl fun i (hi : i < s.cnt + 1) => derivedNow i (by omega)

theorem rndStep (h : SameInUse s t) (rnd : s.ph = .rnd) : SameInUse (rndStep s) (rndStep t) := by
  obtain ⟨cnt, halves, dir, rk⟩ := h.inRnd rnd
  simp only [Machine.rndStep, ← cnt, ← halves, ← dir, State.subkey_congr _ rk.symm]
  generalize feistelRound s.halves (s.subkey (subkeyIndex s.dir s.cnt)) = lr
  split_ifs with last
  · exact ((h.setHalves lr lr).goto _ _ _).inUse_of_fin rfl rfl
  · exact ((h.setHalves lr lr).goto _ _ _).inUse_of_rnd rfl rfl rfl dir rk

theorem finStep (h : SameInUse s t) (fin : s.ph = .fin) : SameInUse (finStep s) (finStep t) := by
  simp only [Machine.finStep, ← h.inFin fin]
  exact ((h.setRspData _).markResponse.goto _ _ _).inUse_of_idle rfl

/-! So every edge keeps it, and every run. -/

theorem exec_keeps (h : SameInUse s t) (idle : s.ph = .idle) (i : Instr) :
    ∃ s' t', exec i s = .next s' ∧ exec i t = .next t' ∧ SameInUse s' t' := by
  cases i with
  | enc len block => exact ⟨_, _, rfl, rfl, h.acceptTransform idle .encrypt len block⟩
  | dec len block => exact ⟨_, _, rfl, rfl, h.acceptTransform idle .decrypt len block⟩
  | derive len key => exact ⟨_, _, rfl, rfl, h.acceptDerive idle len key⟩
  | rdk ignored idx data => exact ⟨_, _, rfl, rfl, h.acceptRdk idle idx⟩

theorem edge_keeps (h : SameInUse s t) (e : EdgeInput) :
    ∃ s' t', edge e s = .next s' ∧ edge e t = .next t' ∧ SameInUse s' t' := by
  simp only [edge, ← h.ph]
  cases e.rst with
  | true => exact ⟨_, _, rfl, rfl, h.resetEdge⟩
  | false =>
    cases ph : s.ph with
    | idle =>
      cases e.cmdValid with
      | true => exact h.exec_keeps ph (decode e.beat)
      | false => exact ⟨_, _, rfl, rfl, h⟩
    | ks => exact ⟨_, _, rfl, rfl, h.ksStep ph⟩
    | rnd => exact ⟨_, _, rfl, rfl, h.rndStep ph⟩
    | fin => exact ⟨_, _, rfl, rfl, h.finStep ph⟩

theorem step_keeps (h : SameInUse s t) : ∃ s' t', step s = .next s' ∧ step t = .next t' ∧ SameInUse s' t' := by
  simp only [step, ← h.sampled_eq]
  exact h.consumeInput.edge_keeps s.sampled

theorem run_keeps (h : SameInUse s t) (n : Nat) :
    ∃ s' t', run n s = .next s' ∧ run n t = .next t' ∧ SameInUse s' t' := by
  induction n generalizing s t with
  | zero => exact ⟨s, t, rfl, rfl, h⟩
  | succ n ih =>
    obtain ⟨s₁, t₁, hs, ht, h₁⟩ := h.step_keeps
    rw [run_succ hs, run_succ ht]
    exact ih h₁

end SameInUse

/-- Settles O44: two ready states the caller cannot tell apart are in the relation, which every run keeps. -/
theorem residualStateIsInvisible : Obligations.ResidualStateIsInvisible := by
  intro s t h n
  obtain ⟨s', t', hs, ht, h'⟩ := ((SameStatus.of_sameToCaller h).inUse_of_idle h.readyLeft).run_keeps n
  exact ⟨s', t', hs, ht, h'.outputs_eq⟩

end Sys2Proof.Machine
end

section
/-! SUPPORT. Byte and bit order of operands and results (20_memory.md R52, R53). The operand of eight bytes and the bytes
of a result are each read bit by bit, in DES numbering; both round trips follow from the two readings. -/

namespace Sys2Proof.Machine

/-- Concatenation puts the left operand's bits first: bit 8i + j from the left, counted from 0, is bit j of byte i. -/
theorem getMsbD_blockOfBytes (b : Vector (BitVec 8) 8) {i j : Nat} (hi : i < 8) (hj : j < 8) :
    (blockOfBytes b).getMsbD (8 * i + j) = b[i].getMsbD j := by
  simp only [blockOfBytes, BitVec.getMsbD_append]
  interval_cases i <;> grind

/-- DES bit 8i + k of the operand is DES bit k of byte i (R52). -/
theorem dbit_blockOfBytes (b : Vector (BitVec 8) 8) {i k : Nat} (hi : i < 8) (h1 : 1 ≤ k) (hk : k ≤ 8) :
    dbit (blockOfBytes b) (8 * i + k) = dbit b[i] k := by
  rw [dbit_eq_getMsbD _ (by omega) (by omega), dbit_eq_getMsbD _ h1 hk, Nat.add_sub_assoc h1]
  exact getMsbD_blockOfBytes b hi (by omega)

/-- DES bit k of byte i of a result is its DES bit 8i + k (R53). -/
theorem dbit_bytesOfBlock (v : Block) {i k : Nat} (hi : i < 8) (h1 : 1 ≤ k) (hk : k ≤ 8) :
    dbit (bytesOfBlock v)[i] k = dbit v (8 * i + k) := by
  have inByte : 8 - k < 8 := by omega
  have position : 56 - 8 * i + (8 - k) = 64 - (8 * i + k) := by omega
  simp [bytesOfBlock, dbit, inByte, position]

/-- The bytes of the operand made of `b` are `b`. -/
theorem bytesOfBlock_blockOfBytes (b : Vector (BitVec 8) 8) : bytesOfBlock (blockOfBytes b) = b := by
  refine Vector.ext fun i hi => eq_of_dbit fun k h1 hk => ?_
  rw [dbit_bytesOfBlock _ hi h1 hk, dbit_blockOfBytes b hi h1 hk]

/-- The operand made of the bytes of `v` is `v`. -/
theorem blockOfBytes_bytesOfBlock (v : Block) : blockOfBytes (bytesOfBlock v) = v := by
  refine BitVec.eq_of_getMsbD_eq fun n hn => ?_
  have byte_lt : n / 8 < 8 := by omega
  have bit_lt : n % 8 < 8 := Nat.mod_lt n (by norm_num)
  rw [← Nat.div_add_mod n 8, getMsbD_blockOfBytes _ byte_lt bit_lt, getMsbD_eq_dbit _ bit_lt,
    dbit_bytesOfBlock v byte_lt (by omega) bit_lt, getMsbD_eq_dbit v (by omega), Nat.add_assoc]

/-- Settles O47: the reading of the operand and the two round trips. -/
theorem operandBytesAreBigEndian : Obligations.OperandBytesAreBigEndian :=
  ⟨fun b i _ h1 hk => dbit_blockOfBytes b i.isLt h1 hk, bytesOfBlock_blockOfBytes, blockOfBytes_bytesOfBlock⟩

end Sys2Proof.Machine
end

section
/-! SUPPORT. The presentation of a subkey (20_memory.md R54) and the operand of a refused command (R56). -/

namespace Sys2Proof.Machine

/-- DES bit i of a subkey stands at hardware bit 48 - i of RSP_DATA (R54). -/
theorem getLsbD_presentSubkey (k : Subkey) {i : Nat} (h1 : 1 ≤ i) : (presentSubkey k).getLsbD (48 - i) = dbit k i := by
  have inBlock : 48 - i < 64 := by omega
  simp [presentSubkey, dbit, inBlock]

theorem extractLsb'_presentSubkey_low (k : Subkey) : (presentSubkey k).extractLsb' 0 48 = k := by
  rw [presentSubkey, BitVec.extractLsb'_setWidth_of_le (by norm_num), BitVec.extractLsb'_eq_self]

theorem extractLsb'_presentSubkey_high (k : Subkey) : (presentSubkey k).extractLsb' 48 16 = 0#16 := by
  refine BitVec.eq_of_getLsbD_eq fun i _ => ?_
  simp [presentSubkey]

/-- RDK with a key set installed responds with the subkey presented, and writes nothing else (R176). -/
theorem exec_rdk_of_kvalid {s : State} (key : s.kvalid = true) (ignored : BitVec 3) (idx : Fin 16) (data : Block) :
    exec (.rdk ignored idx data) s = .next (s.respondOk (presentSubkey (s.subkey idx))) := by
  have answered : acceptRdk idx s = s.respondOk (presentSubkey (s.subkey idx)) := by
    simpa [key] using acceptRdk_cases idx s
  exact congrArg Host.Outcome.next answered

/-- Settles O21: RSP_DATA is the presented subkey, whose ends are DES bits 1 and 48. -/
theorem subkeyIsRightAligned : Obligations.SubkeyIsRightAligned := by
  intro s t a idx x key h
  rw [exec_rdk_of_kvalid key] at h
  cases h
  exact ⟨extractLsb'_presentSubkey_low _, extractLsb'_presentSubkey_high _,
    getLsbD_presentSubkey _ (i := 1) (by norm_num), getLsbD_presentSubkey _ (i := 48) (by norm_num)⟩

/-- ENC and DEC check the length first, so a wrong one raises the error whatever else holds (R174, R208). -/
theorem acceptTransform_of_length_ne {len : Nat} (h : len ≠ 64) (dir : Direction) (block : Block) (s : State) :
    acceptTransform dir len block s = s.raise .invalidBlockLength := by
  simpa [h] using acceptTransform_cases dir len block s

theorem acceptDerive_of_length_ne {len : Nat} (h : len ≠ 64) (key : Block) (s : State) :
    acceptDerive len key s = s.raise .invalidKeyLength := by
  simpa [h] using acceptDerive_cases len key s

/-- Settles O23: each of the three commands raises its length error, in which the operand does not occur. -/
theorem refusedOperandIsNotUsed : Obligations.RefusedOperandIsNotUsed := by
  intro s len x x' h
  simp only [exec, execEnc, execDec, execDerive, acceptTransform_of_length_ne h, acceptDerive_of_length_ne h, and_self]

end Sys2Proof.Machine
end

section
/-! SUPPORT. The fields of a command word and the four commands they select (30_encoding.md R71 to R74): what a word
put together from fields reads back as, how a word is put together again, and the place values of the fields. -/

namespace Sys2Proof

open Sys2Proof.Machine

@[simp] theorem opField_formatL (op : BitVec 2) (len : Nat) : opField (formatL op len) = op :=
  BitVec.extractLsb'_append_eq_left

@[simp] theorem lenField_formatL (op : BitVec 2) {len : Nat} (h : len < 128) : lenField (formatL op len) = len := by
  have arg : argField (formatL op len) = BitVec.ofNat 7 len := BitVec.extractLsb'_append_eq_right
  rw [lenField, arg, BitVec.toNat_ofNat, Nat.mod_eq_of_lt h]

@[simp] theorem opField_formatK (ignored : BitVec 3) (idx : Fin 16) : opField (formatK ignored idx) = 0b11#2 := by
  rw [opField, formatK, BitVec.extractLsb'_append_eq_of_le (by norm_num)]
  exact BitVec.extractLsb'_append_eq_left

@[simp] theorem ignoredField_formatK (ignored : BitVec 3) (idx : Fin 16) :
    ignoredField (formatK ignored idx) = ignored := by
  rw [ignoredField, formatK, BitVec.extractLsb'_append_eq_of_le (by norm_num)]
  exact BitVec.extractLsb'_append_eq_right

@[simp] theorem idxField_formatK (ignored : BitVec 3) (idx : Fin 16) : idxField (formatK ignored idx) = idx :=
  congrArg BitVec.toFin BitVec.extractLsb'_append_eq_right

theorem lenField_lt (w : CmdWord) : lenField w < 128 := (argField w).isLt

/-- A word is its `op` followed by its `arg` (R71). -/
theorem formatL_opField_lenField (w : CmdWord) : formatL (opField w) (lenField w) = w := by
  rw [formatL, lenField, BitVec.ofNat_toNat, BitVec.setWidth_eq]
  exact (BitVec.extractLsb'_append_extractLsb'_eq_extractLsb' rfl).trans BitVec.extractLsb'_eq_self

/-- An RDK word is `op`, the ignored bits and `idx` (R71, R74). -/
theorem formatK_ignoredField_idxField {w : CmdWord} (op : opField w = 0b11#2) :
    formatK (ignoredField w) (idxField w) = w := by
  have high : opField w ++ ignoredField w = w.extractLsb' 4 5 :=
    BitVec.extractLsb'_append_extractLsb'_eq_extractLsb' rfl
  rw [formatK, ← op, high]
  exact (BitVec.extractLsb'_append_extractLsb'_eq_extractLsb' rfl).trans BitVec.extractLsb'_eq_self

theorem opField_cases (w : CmdWord) :
    opField w = 0b00#2 ∨ opField w = 0b01#2 ∨ opField w = 0b10#2 ∨ opField w = 0b11#2 := by
  generalize opField w = op
  revert op
  decide

section
variable {w : CmdWord} (x : Block)

theorem decode_of_op_enc (op : opField w = 0b00#2) : decode { cmd := w, data := x } = .enc (lenField w) x := by
  simp [decode, op]

theorem decode_of_op_dec (op : opField w = 0b01#2) : decode { cmd := w, data := x } = .dec (lenField w) x := by
  simp [decode, op]

theorem decode_of_op_derive (op : opField w = 0b10#2) :
    decode { cmd := w, data := x } = .derive (lenField w) x := by
  simp [decode, op]

theorem decode_of_op_rdk (op : opField w = 0b11#2) :
    decode { cmd := w, data := x } = .rdk (ignoredField w) (idxField w) x := by
  simp [decode, op]

end

/-- Settles O1: each format's fields read back what the encoder put there; for `len` this takes well-formedness. -/
theorem decodeOfEncodeIsInstruction : Obligations.DecodeOfEncodeIsInstruction := by
  intro i wf
  cases i with
  | enc len block =>
    have bound : len < 128 := of_decide_eq_true wf
    simp [encode, decode_of_op_enc, bound]
  | dec len block =>
    have bound : len < 128 := of_decide_eq_true wf
    simp [encode, decode_of_op_dec, bound]
  | derive len key =>
    have bound : len < 128 := of_decide_eq_true wf
    simp [encode, decode_of_op_derive, bound]
  | rdk ignored idx data => simp [encode, decode_of_op_rdk]

theorem decode_wellFormed (b : Beat) : (decode b).WellFormed := by
  obtain ⟨w, x⟩ := b
  have len : decide (lenField w < 128) = true := decide_eq_true (lenField_lt w)
  rcases opField_cases w with op | op | op | op
  · rwa [decode_of_op_enc x op]
  · rwa [decode_of_op_dec x op]
  · rwa [decode_of_op_derive x op]
  · rw [decode_of_op_rdk x op]; rfl

theorem encode_decode (b : Beat) : encode (decode b) = b := by
  obtain ⟨w, x⟩ := b
  have word : formatL (opField w) (lenField w) = w := formatL_opField_lenField w
  rcases opField_cases w with op | op | op | op
  · rw [decode_of_op_enc x op, encode, ← op, word]
  · rw [decode_of_op_dec x op, encode, ← op, word]
  · rw [decode_of_op_derive x op, encode, ← op, word]
  · rw [decode_of_op_rdk x op, encode, formatK_ignoredField_idxField op]

/-- Settles O2: the four values of `op` are all the words there are, and each format's fields cover its nine bits. -/
theorem everyBeatIsACommand : Obligations.EveryBeatIsACommand :=
  fun b => ⟨decode_wellFormed b, encode_decode b⟩

/-- `op` counts the 128s of the word (R71). -/
theorem opField_eq_iff (w : CmdWord) (op : BitVec 2) : opField w = op ↔ w.toNat / 128 = op.toNat := by
  have small : w.toNat / 128 < 4 := by have := w.isLt; omega
  rw [← BitVec.toNat_inj, opField, BitVec.extractLsb'_toNat, Nat.shiftRight_eq_div_pow, Nat.mod_eq_of_lt small]

theorem lenField_eq_mod (w : CmdWord) : lenField w = w.toNat % 128 := BitVec.extractLsb'_toNat 0 7 w

theorem ignoredField_eq_ofNat (w : CmdWord) : ignoredField w = BitVec.ofNat 3 (w.toNat / 16) := by
  apply BitVec.eq_of_toNat_eq
  rw [ignoredField, BitVec.extractLsb'_toNat, Nat.shiftRight_eq_div_pow, BitVec.toNat_ofNat]

theorem idxField_eq_ofNat (w : CmdWord) : idxField w = Fin.ofNat 16 w.toNat :=
  Fin.ext (BitVec.extractLsb'_toNat 0 4 w)

/-- An RDK word decodes to the fields at their place values (R74). -/
theorem decode_rdk_word {w : CmdWord} (op : w.toNat / 128 = 3) (x : Block) :
    decode { cmd := w, data := x } = .rdk (BitVec.ofNat 3 (w.toNat / 16)) (Fin.ofNat 16 w.toNat) x := by
  rw [decode_of_op_rdk x ((opField_eq_iff w 0b11#2).mpr op), ignoredField_eq_ofNat, idxField_eq_ofNat]

/-- Settles O3: the quotient by 128 is `op`, which selects the command, and the fields are the rest by place value. -/
theorem wordFieldsByPlaceValue : Obligations.WordFieldsByPlaceValue := by
  intro w x
  rw [← lenField_eq_mod]
  exact ⟨fun op => decode_of_op_enc x ((opField_eq_iff w 0b00#2).mpr op),
    fun op => decode_of_op_dec x ((opField_eq_iff w 0b01#2).mpr op),
    fun op => decode_of_op_derive x ((opField_eq_iff w 0b10#2).mpr op),
    fun op => decode_rdk_word op x⟩

/-- RDK executes alike for all ignored bits and operands (R74). -/
theorem exec_rdk (ignored : BitVec 3) (idx : Fin 16) (data : Block) (s : State) :
    exec (.rdk ignored idx data) s = .next (acceptRdk idx s) := rfl

/-- Settles O22: the low four bits of an RDK word are the index, the one field `exec` looks at. -/
theorem rdkIgnoresTheOtherBits : Obligations.RdkIgnoresTheOtherBits := by
  intro s w w' x x' op op' low
  have idx : Fin.ofNat 16 w.toNat = Fin.ofNat 16 w'.toNat := Fin.ext low
  rw [decode_rdk_word op, decode_rdk_word op']
  exact ⟨by rw [exec_rdk, exec_rdk, idx], fun key => ⟨_, exec_rdk_of_kvalid key _ _ _, rfl⟩⟩

end Sys2Proof
end

section
/-! SUPPORT. The opcode map of R72 beside the decoder: both go by `op` alone. -/

namespace Sys2Proof

/-- The mnemonic of each value of `op` (R72). -/
def mnemonicOfOp (op : BitVec 2) : String :=
  if op = 0b00#2 then "ENC" else if op = 0b01#2 then "DEC" else if op = 0b10#2 then "DERIVE" else "RDK"

theorem mnemonicOfOp_inj : ∀ {op op' : BitVec 2}, mnemonicOfOp op = mnemonicOfOp op' ↔ op = op' := by decide

theorem mnemonic_decode (b : Beat) : (decode b).mnemonic = mnemonicOfOp (opField b.cmd) := by
  obtain ⟨w, x⟩ := b
  rcases opField_cases w with op | op | op | op
  · rw [decode_of_op_enc x op, op]; rfl
  · rw [decode_of_op_dec x op, op]; rfl
  · rw [decode_of_op_derive x op, op]; rfl
  · rw [decode_of_op_rdk x op, op]; rfl

/-- The row of R72 for one value of `op`: `op` over seven zeros, compared under the mask of the two `op` bits. -/
def rowOfOp (op : BitVec 2) : OpcodeRow :=
  { mnemonic := mnemonicOfOp op, pattern := op ++ 0#7, mask := 0x180#9 }

theorem opcodeRows_eq_map : opcodeRows = [0b00#2, 0b01#2, 0b10#2, 0b11#2].map rowOfOp := by decide

theorem rowOfOp_covers_iff (op : BitVec 2) (w : CmdWord) : (rowOfOp op).covers w = true ↔ opField w = op := by
  have masked : w &&& 0x180#9 = opField w ++ 0#7 := by
    conv_lhs => rw [← formatL_opField_lenField w]
    exact Laws.OpcodeRowCovers.formatL_covers _ _
  rw [OpcodeRow.covers, beq_iff_eq, rowOfOp, masked, BitVec.append_left_inj]

/-- Settles O4: the row of `op` covers the words with that `op`, and no two values of `op` share a mnemonic. -/
theorem opcodeMapNamesTheMnemonic : Obligations.OpcodeMapNamesTheMnemonic := by
  intro b row mem
  rw [opcodeRows_eq_map] at mem
  obtain ⟨op, -, rfl⟩ := List.mem_map.mp mem
  rw [rowOfOp_covers_iff, mnemonic_decode]
  exact (mnemonicOfOp_inj.trans eq_comm).symm

/-- Settles O5: each word's `op` selects its command, and its fields are read off by evaluation. -/
theorem listedWordsDecode : Obligations.ListedWordsDecode :=
  ⟨decode_of_op_enc _ rfl, decode_of_op_dec _ rfl, decode_of_op_derive _ rfl, decode_of_op_rdk _ rfl⟩

end Sys2Proof
end

section
/-! SUPPORT. What PERM does with a table by the positions it names (00_scope.md R10): one table undoes another when its
entries lead back, a table that names every position of a string as long as its output is a bijection, and a table that
omits a position drops that bit. -/

namespace Sys2Proof.Machine

/-- If entry `outer[i]` of `inner` is i, counted from 1, then PERM with `outer` undoes PERM with `inner`. -/
theorem perm_perm_cancel {m n : Nat} {outer : Vector Nat n} {inner : Vector Nat m} (inRange : EntriesIn outer m)
    (leadsBack : ∀ i : Fin n, inner.toList[(outer[i.val]'i.isLt) - 1]? = some (i.val + 1)) (v : BitVec n) :
    perm outer (perm inner v) = v := by
  refine BitVec.eq_of_getMsbD_eq fun i hi => ?_
  obtain ⟨one_le, le⟩ := inRange outer[i] (by simp)
  have source_lt : outer[i] - 1 < m := by omega
  have entry : inner[outer[i] - 1] = i + 1 := by simpa [source_lt] using leadsBack ⟨i, hi⟩
  rw [getMsbD_perm outer _ i hi, dbit_eq_getMsbD _ one_le le, getMsbD_perm inner v _ source_lt, entry,
    getMsbD_eq_dbit v hi]

/-- On strings of one width, PERM with a table that names every position is a bijection. -/
theorem perm_bijective {n : Nat} {table : Vector Nat n} (covers : Covers table n) :
    Function.Bijective fun v : BitVec n => (perm table v : BitVec n) :=
  Finite.injective_iff_bijective.mp (perm_injective covers)

/-- PERM reads only the DES bits its table names. -/
theorem perm_congr {m n : Nat} {table : Vector Nat m} {v w : BitVec n}
    (h : ∀ t ∈ table.toList, dbit v t = dbit w t) : perm table v = perm table w := by
  refine BitVec.eq_of_getMsbD_eq fun i hi => ?_
  rw [getMsbD_perm table v i hi, getMsbD_perm table w i hi]
  exact h _ (by simp)

/-- The string with DES bit i alone has every other DES bit clear. -/
theorem dbit_twoPow {n i t : Nat} (hi : i ≤ n) (h1 : 1 ≤ i) (ht : t ≤ n) :
    dbit (BitVec.twoPow n (n - i)) t = decide (t = i) := by
  have position_lt : n - i < n := by omega
  have same : n - i = n - t ↔ t = i := by omega
  simp [dbit, position_lt, same]

/-- PERM with a table that omits position i of its input drops that bit: the string with DES bit i alone goes where the
zero string goes. -/
theorem not_injective_perm {m n i : Nat} {table : Vector Nat m} (inRange : EntriesIn table n) (h1 : 1 ≤ i)
    (hi : i ≤ n) (omitted : i ∉ table.toList) : ¬ Function.Injective fun v : BitVec n => perm table v := by
  intro injective
  have sameImage : perm table (BitVec.twoPow n (n - i)) = perm table 0#n := by
    refine perm_congr fun t mem => ?_
    have other : t ≠ i := fun e => omitted (e ▸ mem)
    rw [dbit_twoPow hi h1 (inRange t mem).2]
    simp [dbit, other]
  have sameBit : dbit (BitVec.twoPow n (n - i)) i = dbit 0#n i := by rw [injective sameImage]
  rw [dbit_twoPow hi h1 hi] at sameBit
  simp [dbit] at sameBit

/-- One position in a table's list of omitted ones (R108 items 6 and 7) is enough for PERM to drop a bit. -/
theorem not_injective_perm_of_omits {m n : Nat} {table : Vector Nat m} {omitted : List Nat}
    (inRange : EntriesIn table n) (omits : OmitsExactly table n omitted) {i : Fin n} (mem : i.val + 1 ∈ omitted) :
    ¬ Function.Injective fun v : BitVec n => perm table v :=
  not_injective_perm inRange (Nat.le_add_left 1 i.val) i.isLt fun named => (omits.2 i).mp named mem

/-- Settles O53: the entries of each table lead back through the other. -/
theorem finalPermutationInvertsInitial : Obligations.FinalPermutationInvertsInitial := by
  obtain ⟨-, -, ⟨ipInRange, -⟩, ⟨fpInRange, -⟩, -⟩ := table_sizes
  exact ⟨perm_perm_cancel fpInRange fun i => (ip_fp_entries i).2,
    perm_perm_cancel ipInRange fun i => (ip_fp_entries i).1,
    fun i => (ip_fp_entries i).symm⟩

end Sys2Proof.Machine
end

section
/-! SUPPORT. The key halves as one rotation of (C0, D0) (41_key_schedule.md R122): the amounts of the rounds add up, and
over sixteen rounds to a full turn (40_tables.md R108 item 8). -/

namespace Sys2Proof.Machine

theorem rotateLeft_rotateLeft {w : Nat} (x : BitVec w) (a b : Nat) :
    (x.rotateLeft a).rotateLeft b = x.rotateLeft (a + b) := by
  refine BitVec.eq_of_getMsbD_eq fun i hi => ?_
  have source_lt : (b + i) % w < w := Nat.mod_lt _ (by omega)
  simp [BitVec.getMsbD_rotateLeft, hi, source_lt, Nat.add_assoc]

theorem rotateLeft_zero {w : Nat} (x : BitVec w) : x.rotateLeft 0 = x := by
  simp [BitVec.rotateLeft_def, BitVec.ushiftRight_eq_zero]

theorem rotateLeft_width {w : Nat} (x : BitVec w) : x.rotateLeft w = x := by
  rw [← BitVec.rotateLeft_mod_eq_rotateLeft, Nat.mod_self, rotateLeft_zero]

/-- SHIFT[1] + ... + SHIFT[n], the rotation that takes (C0, D0) to (Cn, Dn) (R122). -/
def totalShift (n : Nat) : Nat := (shiftSchedule.toList.take n).sum

theorem totalShift_succ (n : Fin 16) : totalShift (n.val + 1) = totalShift n.val + shiftAmount n := by
  have inSchedule : n.val < shiftSchedule.toList.length := by simp
  rw [totalShift, List.sum_take_succ _ _ inSchedule, Vector.getElem_toList, totalShift, shiftAmount]

theorem totalShift_sixteen : totalShift 16 = 28 := shifts_sum

theorem rol28_shiftAmount (x : KeyHalf) (n : Fin 16) : rol28 x (shiftAmount n) = x.rotateLeft (shiftAmount n) := by
  have oneOrTwo := shifts_one_or_two n
  exact rol28_eq_rotateLeft x (by omega)

/-- (Cn, Dn) is (C0, D0) with both halves rotated by the sum of the first n shifts. -/
theorem keyHalves_eq_rotateLeft (key : Block) {n : Nat} (h : n ≤ 16) :
    keyHalves key n =
      ((initialKeyHalves key).1.rotateLeft (totalShift n), (initialKeyHalves key).2.rotateLeft (totalShift n)) := by
  induction n with
  | zero => simp [keyHalves, totalShift, rotateLeft_zero]
  | succ n ih =>
    have round : n < 16 := h
    rw [keyHalves_succ key ⟨n, round⟩, ih (by omega), totalShift_succ ⟨n, round⟩, rotateKeyHalves, rol28_shiftAmount,
      rol28_shiftAmount, rotateLeft_rotateLeft, rotateLeft_rotateLeft]

/-- Sixteen rounds turn both halves once around. -/
theorem keyHalves_sixteen (key : Block) : keyHalves key 16 = initialKeyHalves key := by
  rw [keyHalves_eq_rotateLeft key le_rfl, totalShift_sixteen, rotateLeft_width, rotateLeft_width]

/-- Settles O58: items 1 to 7 and 9 are checks of the entries; items 8 and 10 follow from them for every value. -/
theorem tablesHaveTheirStructure : Obligations.TablesHaveTheirStructure := by
  obtain ⟨ipCovers, fpCovers, pboxCovers⟩ := permutations_cover
  obtain ⟨pc1InRange, pc2InRange, -, -, -, expansionCovers, -⟩ := table_sizes
  exact {
    sizes := table_sizes
    finalInvertsInitial := ip_fp_entries
    expansionDuplicates := by rw [expansion_duplicates]; rfl
    shifts := shifts_one_or_two
    sboxRange := sbox_range
    pc1Omits := pc1_omits
    pc2Omits := pc2_omits
    shiftTotal := ⟨shifts_sum, keyHalves_sixteen⟩
    sboxRows := sbox_rows
    bijections := ⟨perm_bijective ipCovers, perm_bijective fpCovers, perm_bijective pboxCovers⟩
    expansionInjective := perm_injective expansionCovers
    selectionsDropBits := ⟨not_injective_perm_of_omits pc1InRange pc1_omits (i := 7) (by decide),
      not_injective_perm_of_omits pc2InRange pc2_omits (i := 8) (by decide)⟩ }

end Sys2Proof.Machine
end

section
/-! SUPPORT. What KS(key) depends on (41_key_schedule.md R121 to R124) and the totals of its rotations (R122). -/

namespace Sys2Proof.Machine

/-- The rounds of the key schedule start from (C0, D0) and take nothing else of the key (R122). -/
theorem keyHalves_congr {k k' : Block} (same : initialKeyHalves k = initialKeyHalves k') (n : Nat) :
    keyHalves k n = keyHalves k' n := by
  induction n with
  | zero => exact same
  | succ n ih => rw [keyHalves, ih, keyHalves]

theorem keySchedule_congr {k k' : Block} (same : initialKeyHalves k = initialKeyHalves k') :
    keySchedule k = keySchedule k' :=
  RoundKeySet.ext_subkeys fun i => by simp only [subkeyAt_keySchedule, keyHalves_congr same]

/-- PC-1 names no parity position (R124). -/
theorem mod_eight_ne_zero_of_mem_pc1 {t : Nat} (mem : t ∈ pc1.toList) : t % 8 ≠ 0 := by
  obtain ⟨pc1InRange, -⟩ := table_sizes
  obtain ⟨one_le, le⟩ := pc1InRange t mem
  have position : (⟨t - 1, by omega⟩ : Fin 64).val + 1 = t := by
    change t - 1 + 1 = t
    omega
  have notOmitted := (pc1_omits.2 ⟨t - 1, by omega⟩).mp (by rwa [position])
  rw [position] at notOmitted
  simp only [List.mem_cons, List.not_mem_nil, or_false, not_or] at notOmitted
  omega

/-- Settles O48: PC-1 is the one place where KS reads the key. -/
theorem parityBitsDoNotMatter : Obligations.ParityBitsDoNotMatter := by
  intro k k' agree
  obtain ⟨pc1InRange, -⟩ := table_sizes
  have permuted : (perm pc1 k : BitVec 56) = perm pc1 k' := perm_congr fun t mem => by
    obtain ⟨one_le, le⟩ := pc1InRange t mem
    exact agree t one_le le (mod_eight_ne_zero_of_mem_pc1 mem)
  exact keySchedule_congr (by simp only [initialKeyHalves, permuted])

/-- The running sums of the shifts, as R122 lists them. -/
theorem totalShift_eq_listed : ∀ n : Fin 16, totalShift (n.val + 1) =
    (#v[1, 2, 4, 6, 8, 10, 12, 14, 15, 17, 19, 21, 23, 25, 27, 28] : Vector Nat 16)[n.val]'n.isLt := by
  decide

/-- Settles O49: the rotations of the rounds add up, and the last total is the width of a half. -/
theorem totalRotations : Obligations.TotalRotations := by
  intro key
  exact ⟨fun n => by rw [keyHalves_eq_rotateLeft key n.isLt, totalShift_eq_listed], keyHalves_sixteen key⟩

end Sys2Proof.Machine
end

section
/-! SUPPORT. RDK in both cases of KVALID (41_key_schedule.md R129). -/

namespace Sys2Proof.Machine

theorem exec_rdk_of_noKey {s : State} (noKey : s.kvalid = false) (ignored : BitVec 3) (idx : Fin 16) (data : Block) :
    exec (.rdk ignored idx data) s = .next (s.raise .noKey) := by
  have refused : acceptRdk idx s = s.raise .noKey := by simpa [noKey] using acceptRdk_cases idx s
  rw [exec_rdk, refused]

/-- Settles O20: each case writes the three response registers. -/
theorem rdkAnswersTheSubkey : Obligations.RdkAnswersTheSubkey := by
  intro s a idx x
  exact ⟨fun noKey => exec_rdk_of_noKey noKey a idx x, fun key => exec_rdk_of_kvalid key a idx x⟩

end Sys2Proof.Machine
end

section
/-! SUPPORT. Runs along a known series of states: the edges of a command in execution (44_sequencer.md section 4), whatever
is presented at them (R185), and a reset among them (R231). -/

namespace Sys2Proof.Machine

/-- Without a reset, each of the first `bound` edges takes the state `F n` to the state `F (n + 1)`. The argument of `F n`
is the list of inputs still to come. -/
def StepsAlong (F : Nat → List EdgeInput → State) (bound : Nat) : Prop :=
  ∀ n e ins, n < bound → e.rst = false → step (F n (e :: ins)) = .next (F (n + 1) ins)

section
variable {F : Nat → List EdgeInput → State} {bound : Nat}

theorem run_along (along : StepsAlong F bound) {ins : List EdgeInput} (noReset : NoReset ins) (rest : List EdgeInput)
    {n : Nat} (within : n + ins.length ≤ bound) :
    run ins.length (F n (ins ++ rest)) = .next (F (n + ins.length) rest) := by
  induction ins generalizing n with
  | nil => rfl
  | cons e ins ih =>
    obtain ⟨rst, noReset⟩ := List.forall_mem_cons.mp noReset
    rw [List.length_cons] at within ⊢
    have first : step (F n (e :: (ins ++ rest))) = .next (F (n + 1) (ins ++ rest)) := along n e _ (by omega) rst
    rw [List.cons_append, run_succ first, ih noReset (by omega), Nat.add_right_comm, Nat.add_assoc]

/-- The first `j` edges of a longer list of inputs. -/
theorem run_along_take (along : StepsAlong F bound) {ins : List EdgeInput} (noReset : NoReset ins)
    (rest : List EdgeInput) {j : Nat} (listed : j ≤ ins.length) (within : j ≤ bound) :
    run j (F 0 (ins.take j ++ rest)) = .next (F j rest) := by
  have length : (ins.take j).length = j := List.length_take_of_le listed
  have noResetTake : NoReset (ins.take j) := fun e mem => noReset e (List.mem_of_mem_take mem)
  simpa [length] using run_along along noResetTake rest (n := 0) (by omega)

theorem run_along_append (along : StepsAlong F bound) {ins : List EdgeInput} (noReset : NoReset ins)
    (rest : List EdgeInput) {j : Nat} (listed : j ≤ ins.length) (within : j ≤ bound) :
    run j (F 0 (ins ++ rest)) = .next (F j (ins.drop j ++ rest)) := by
  have reached := run_along_take along noReset (ins.drop j ++ rest) listed within
  rwa [← List.append_assoc, List.take_append_drop] at reached

/-- A reset after `j` of the edges leaves RESET_STATE. -/
theorem run_along_reset (along : StepsAlong F bound) (inputs : ∀ n ins, (F n ins).inputs = ins) {ins : List EdgeInput}
    (noReset : NoReset ins) (rest : List EdgeInput) {j : Nat} (listed : j ≤ ins.length) (within : j ≤ bound)
    {e : EdgeInput} (rst : e.rst = true) :
    run (j + 1) (F 0 (ins.take j ++ e :: rest)) = .next { State.reset with inputs := rest } := by
  rw [run_add (run_along_take along noReset (e :: rest) listed within), run_succ (step_reset (inputs _ _) rst), run_zero]

end

end Sys2Proof.Machine
end

section
/-! SUPPORT. DERIVE edge by edge (41_key_schedule.md R128, 44_sequencer.md R175 and R177): the state after each edge. -/

namespace Sys2Proof.Machine

/-- The round the counter names is the sixteenth exactly at count 15 (R28). -/
theorem val_succ_eq_sixteen_iff {n : Fin 16} : n.val + 1 = 16 ↔ n = 15 := by
  rw [Fin.ext_iff]
  exact Nat.succ_inj

theorem finOfNat_val_succ (n : Fin 16) : Fin.ofNat 16 (n.val + 1) = n + 1 := rfl

/-- RK once the first `n` subkeys of the key are written over what it held. -/
def keyFileAfter (rk : RoundKeySet) (key : Block) (n : Nat) : RoundKeySet :=
  Vector.ofFn fun i : Fin 16 => if i.val < n then subkeyAt (keySchedule key) i else subkeyAt rk i

theorem subkeyAt_keyFileAfter (rk : RoundKeySet) (key : Block) (n : Nat) (i : Fin 16) :
    subkeyAt (keyFileAfter rk key n) i = if i.val < n then subkeyAt (keySchedule key) i else subkeyAt rk i := by
  simp [subkeyAt, keyFileAfter]

theorem keyFileAfter_zero (rk : RoundKeySet) (key : Block) : keyFileAfter rk key 0 = rk :=
  RoundKeySet.ext_subkeys fun i => by simp [subkeyAt_keyFileAfter]

theorem keyFileAfter_sixteen (rk : RoundKeySet) (key : Block) : keyFileAfter rk key 16 = keySchedule key :=
  RoundKeySet.ext_subkeys fun i => by rw [subkeyAt_keyFileAfter, if_pos i.isLt]

/-- Round n + 1 writes K(n + 1) into RK[n]. -/
theorem keyFileAfter_succ (rk : RoundKeySet) (key : Block) (n : Fin 16) :
    (keyFileAfter rk key n.val).set n.val (selectSubkey (keyHalves key (n.val + 1))) n.isLt =
      keyFileAfter rk key (n.val + 1) := by
  refine RoundKeySet.ext_subkeys fun i => ?_
  rw [subkeyAt_set, subkeyAt_keyFileAfter, subkeyAt_keyFileAfter]
  by_cases written : n = i
  · simp [written]
  · have same : i.val < n.val + 1 ↔ i.val < n.val := by
      have := Fin.val_ne_of_ne written
      omega
    simp only [written, same, if_false]

/-- The state `n` edges after the accepting edge of DERIVE in `s`, n in 0..16, with the inputs still to come: the halves of
round n, the first n subkeys, and after round 16 the key set valid and the answer given. -/
def State.deriving (s : State) (key : Block) (n : Nat) (ins : List EdgeInput) : State :=
  { s with
    rk := keyFileAfter s.rk key n, kvalid := decide (n = 16),
    c := (keyHalves key n).1, d := (keyHalves key n).2,
    ph := if n = 16 then .idle else .ks, cnt := Fin.ofNat 16 n,
    rspValid := decide (n = 16), rspErr := .ok, rspData := 0#64, inputs := ins }

/-- Runs hand the coming inputs over by this update. -/
@[simp] theorem deriving_withInputs (s : State) (key : Block) (n : Nat) (ins ins' : List EdgeInput) :
    { s.deriving key n ins with inputs := ins' } = s.deriving key n ins' := by
  simp only [State.deriving]

/-- The inputs `s` itself lists play no part. -/
@[simp] theorem deriving_of_withInputs (s : State) (key : Block) (n : Nat) (ins ins' : List EdgeInput) :
    State.deriving { s with inputs := ins } key n ins' = s.deriving key n ins' := by
  simp only [State.deriving]

theorem acceptDerive_of_length (key : Block) (s : State) :
    acceptDerive 64 key s = ((s.clearResponse.setKeyHalves (initialKeyHalves key)).setKvalid false).goto .ks 0 := by
  simpa using acceptDerive_cases 64 key s

theorem exec_derive (len : Nat) (key : Block) (s : State) :
    exec (.derive len key) s = .next (acceptDerive len key s) := rfl

/-- The accepting edge loads (C0, D0) and clears KVALID and the response (R175). -/
theorem exec_derive_of_length (key : Block) (s : State) :
    exec (.derive 64 key) s = .next (s.deriving key 0 s.inputs) := by
  have cntZero : Fin.ofNat 16 0 = 0 := rfl
  have notDone : (0 : Nat) ≠ 16 := by decide
  rw [exec_derive, acceptDerive_of_length]
  simp only [State.deriving, keyFileAfter_zero, keyHalves, State.goto, State.setKvalid, State.setKeyHalves,
    State.clearResponse, cntZero, notDone, if_false, decide_false]

theorem ksStep_deriving (s : State) (key : Block) (n : Fin 16) (ins : List EdgeInput) :
    ksStep (s.deriving key n.val ins) = s.deriving key (n.val + 1) ins := by
  have cnt : (s.deriving key n.val ins).cnt = n := finOfNat_val n
  have rotated : rotateKeyHalves n (s.deriving key n.val ins).keyPair = keyHalves key (n.val + 1) :=
    (keyHalves_succ key n).symm
  have written := keyFileAfter_succ s.rk key n
  rcases ksStep_cases (s.deriving key n.val ins) with ⟨last, e⟩ | ⟨notLast, e⟩ <;> rw [e, cnt, rotated]
  · have sixteen : n.val + 1 = 16 := val_succ_eq_sixteen_iff.mpr (cnt.symm.trans last)
    have cntZero : Fin.ofNat 16 16 = 0 := rfl
    rw [sixteen] at written
    simp only [State.markResponse, State.setKvalid, State.goto, State.setSubkey, State.setKeyHalves, State.deriving,
      sixteen, written, cntZero, if_true, decide_true]
  · have notSixteen : n.val + 1 ≠ 16 := fun h => notLast (cnt.trans (val_succ_eq_sixteen_iff.mp h))
    have busy : n.val ≠ 16 := by omega
    simp only [State.goto, State.setSubkey, State.setKeyHalves, State.deriving, written, finOfNat_val_succ, notSixteen, busy,
      if_false, decide_false]

/-- A KS step at count n writes the halves and the subkey of round n + 1; the last one ends the derivation. -/
theorem stepsAlong_deriving (s : State) (key : Block) : StepsAlong (s.deriving key) 16 := by
  intro n e ins lt rst
  rw [step_ks rfl rst (if_neg (Nat.ne_of_lt lt)), deriving_withInputs]
  exact congrArg Host.Outcome.next (ksStep_deriving s key ⟨n, lt⟩ ins)

theorem commandDerive_of_length (key : Block) (s : State) :
    commandDerive 64 key s =
      ((State.setKvalid { s with rk := keySchedule key } true).setKeyHalves (keyHalves key 16)).respondOk 0#64 := by
  simpa using commandDerive_cases 64 key s

/-- After sixteen edges the effect of DERIVE at command level is complete (R128). -/
theorem deriving_sixteen (s : State) (key : Block) (rest : List EdgeInput) :
    s.deriving key 16 rest = { (commandDerive 64 key s).goto .idle 0 with inputs := rest } := by
  rw [commandDerive_of_length]
  simp only [State.deriving, keyFileAfter_sixteen, State.goto, State.respondOk, State.setKeyHalves, State.setKvalid,
    if_true, decide_true]
  rfl

/-- The sixteen edges after the accepting edge of DERIVE (R128). -/
theorem run_deriving (s : State) (key : Block) {ins : List EdgeInput} (noReset : NoReset ins)
    (length : ins.length = 16) (rest : List EdgeInput) :
    run 16 (s.deriving key 0 (ins ++ rest)) =
      .next { (commandDerive 64 key s).goto .idle 0 with inputs := rest } := by
  have reached := run_along (stepsAlong_deriving s key) noReset rest (n := 0) (by omega)
  rwa [length, Nat.zero_add, deriving_sixteen] at reached

/-- Settles O29: refused by the length check; accepted, the sixteen edges follow the series of states of `deriving`. -/
theorem deriveInstallsTheKeySet : Obligations.DeriveInstallsTheKeySet := by
  intro s len key ins rest noReset length
  have along := stepsAlong_deriving s key
  refine ⟨fun wrong => ?_, _, exec_derive_of_length key s, ?_⟩
  · rw [exec_derive, acceptDerive_of_length_ne wrong, State.raise]
  · simp only [deriving_withInputs]
    refine ⟨?_, fun j le => ?_, fun j e le rst => ?_⟩
    · rw [run_deriving s key noReset length, commandDerive_of_length, keyHalves_sixteen]
      simp only [State.goto, State.respondOk, State.setKeyHalves, State.setKvalid]
    · have reached := run_along_append along noReset rest (j := j) (by omega) (by omega)
      have busy : j ≠ 16 := by omega
      exact ⟨_, reached, decide_eq_false busy, if_neg busy⟩
    · exact run_along_reset along (fun _ _ => rfl) noReset rest (by omega) (by omega) rst

end Sys2Proof.Machine
end

section
/-! SUPPORT. A transform undone by the transform of the other direction (43_block_codec.md R157): each round is undone by a
swap, the same round and a swap (R145), and the other direction takes the subkeys in the other order (R153). -/

namespace Sys2Proof.Machine

/-- The same round on the swapped halves after a round gives the halves before it, swapped (R145). -/
theorem feistelRound_swap_feistelRound (lr : Half × Half) (k : Subkey) :
    feistelRound (feistelRound lr k).swap k = lr.swap := by
  simp [feistelRound, Prod.swap]

/-- The direction with the subkeys in the other order (R153). -/
def Direction.opposite : Direction → Direction
  | .encrypt => .decrypt
  | .decrypt => .encrypt

/-- Round n + 1 of one direction has the subkey of round 16 - n of the other. -/
theorem subkeyIndex_opposite (dir : Direction) (n : Fin 16) :
    subkeyIndex dir.opposite n = subkeyIndex dir (15 - n) := by
  revert n
  cases dir <;> decide

/-- From the swapped halves after sixteen rounds, n rounds of the opposite direction go n rounds back. -/
theorem halvesAfter_opposite (keys : RoundKeySet) (dir : Direction) (lr : Half × Half) {n : Nat} (h : n ≤ 16) :
    halvesAfter keys dir.opposite (halvesAfter keys dir lr 16).swap n = (halvesAfter keys dir lr (16 - n)).swap := by
  induction n with
  | zero => rfl
  | succ n ih =>
    have lt : n < 16 := h
    have mirrored : (15 - (⟨n, lt⟩ : Fin 16)).val = 15 - n := subkeyIndex_val .decrypt ⟨n, lt⟩
    have before : 16 - n = (15 - (⟨n, lt⟩ : Fin 16)).val + 1 := by omega
    have after : 16 - (n + 1) = (15 - (⟨n, lt⟩ : Fin 16)).val := by omega
    rw [halvesAfter_succ keys dir.opposite _ ⟨n, lt⟩, ih (by omega), subkeyIndex_opposite, before, halvesAfter_succ,
      feistelRound_swap_feistelRound, after]

/-- The halves IP gives, joined again (R151). -/
theorem append_initialHalves (block : Block) :
    (initialHalves block).1 ++ (initialHalves block).2 = (perm ip block : Block) :=
  (BitVec.extractLsb'_append_extractLsb'_eq_extractLsb' rfl).trans BitVec.extractLsb'_eq_self

theorem initialHalves_finalBlock (lr : Half × Half) : initialHalves (finalBlock lr) = lr.swap := by
  obtain ⟨-, initialOfFinal, -⟩ := finalPermutationInvertsInitial
  simp only [initialHalves, finalBlock, initialOfFinal]
  exact split_append lr.2 lr.1

theorem finalBlock_swap_initialHalves (block : Block) : finalBlock (initialHalves block).swap = block := by
  obtain ⟨finalOfInitial, -, -⟩ := finalPermutationInvertsInitial
  rw [finalBlock, Prod.fst_swap, Prod.snd_swap, append_initialHalves]
  exact finalOfInitial block

theorem transform_opposite (block : Block) (keys : RoundKeySet) (dir : Direction) :
    transform (transform block keys dir) keys dir.opposite = block := by
  rw [transform, transform, initialHalves_finalBlock, halvesAfter_opposite keys dir _ le_rfl, Nat.sub_self, halvesAfter,
    finalBlock_swap_initialHalves]

end Sys2Proof.Machine
end

section
/-! SUPPORT. ENC and DEC edge by edge (43_block_codec.md R160 and R161, 44_sequencer.md R174, R178 and R179): the state after
each edge. -/

namespace Sys2Proof.Machine

/-- The state `n` edges after the accepting edge of ENC or DEC in `s`, n in 0..16, with the inputs still to come: the halves
of round n, and after round 16 the phase FIN. -/
def State.transforming (s : State) (dir : Direction) (block : Block) (n : Nat) (ins : List EdgeInput) : State :=
  { s with
    l := (halvesAfter s.rk dir (initialHalves block) n).1, r := (halvesAfter s.rk dir (initialHalves block) n).2,
    dir := dir, ph := if n = 16 then .fin else .rnd, cnt := Fin.ofNat 16 n,
    rspValid := false, rspErr := .ok, rspData := 0#64, inputs := ins }

/-- Runs hand the coming inputs over by this update. -/
@[simp] theorem transforming_withInputs (s : State) (dir : Direction) (block : Block) (n : Nat) (ins ins' : List EdgeInput) :
    { s.transforming dir block n ins with inputs := ins' } = s.transforming dir block n ins' := by
  simp only [State.transforming]

/-- The inputs `s` itself lists play no part. -/
@[simp] theorem transforming_of_withInputs (s : State) (dir : Direction) (block : Block) (n : Nat)
    (ins ins' : List EdgeInput) :
    State.transforming { s with inputs := ins } dir block n ins' = s.transforming dir block n ins' := by
  simp only [State.transforming]

/-- ENC or DEC of a block, by direction. -/
def transformInstr : Direction → Block → Instr
  | .encrypt, block => .enc 64 block
  | .decrypt, block => .dec 64 block

theorem transformInstr_wellFormed (dir : Direction) (block : Block) : (transformInstr dir block).WellFormed := by
  cases dir <;> rfl

theorem exec_transformInstr (dir : Direction) (block : Block) (s : State) :
    exec (transformInstr dir block) s = .next (acceptTransform dir 64 block s) := by
  cases dir <;> rfl

theorem acceptTransform_of_kvalid {s : State} (key : s.kvalid = true) (dir : Direction) (block : Block) :
    acceptTransform dir 64 block s =
      ((s.clearResponse.setHalves (initialHalves block)).setDir dir).goto .rnd 0 := by
  simpa [key] using acceptTransform_cases dir 64 block s

/-- The accepting edge loads (L0, R0) and the direction and clears the response (R174). -/
theorem exec_transform_of_kvalid {s : State} (key : s.kvalid = true) (dir : Direction) (block : Block) :
    exec (transformInstr dir block) s = .next (s.transforming dir block 0 s.inputs) := by
  have cntZero : Fin.ofNat 16 0 = 0 := rfl
  have notDone : (0 : Nat) ≠ 16 := by decide
  rw [exec_transformInstr, acceptTransform_of_kvalid key]
  simp only [State.transforming, halvesAfter, State.goto, State.setDir, State.setHalves, State.clearResponse, cntZero,
    notDone, if_false]

theorem rndStep_transforming (s : State) (dir : Direction) (block : Block) (n : Fin 16) (ins : List EdgeInput) :
    rndStep (s.transforming dir block n.val ins) = s.transforming dir block (n.val + 1) ins := by
  have cnt : (s.transforming dir block n.val ins).cnt = n := finOfNat_val n
  have dirKept : (s.transforming dir block n.val ins).dir = dir := rfl
  have round : feistelRound (s.transforming dir block n.val ins).halves
      ((s.transforming dir block n.val ins).subkey (subkeyIndex dir n)) =
        halvesAfter s.rk dir (initialHalves block) (n.val + 1) := (halvesAfter_succ s.rk dir _ n).symm
  rcases rndStep_cases (s.transforming dir block n.val ins) with ⟨last, e⟩ | ⟨notLast, e⟩ <;>
    rw [e, cnt, dirKept, round]
  · have sixteen : n.val + 1 = 16 := val_succ_eq_sixteen_iff.mpr (cnt.symm.trans last)
    have cntZero : Fin.ofNat 16 16 = 0 := rfl
    simp only [State.goto, State.setHalves, State.transforming, sixteen, cntZero, if_true]
  · have notSixteen : n.val + 1 ≠ 16 := fun h => notLast (cnt.trans (val_succ_eq_sixteen_iff.mp h))
    simp only [State.goto, State.setHalves, State.transforming, finOfNat_val_succ, notSixteen, if_false]

theorem stepsAlong_transforming (s : State) (dir : Direction) (block : Block) :
    StepsAlong (s.transforming dir block) 16 := by
  intro n e ins lt rst
  rw [step_rnd rfl rst (if_neg (Nat.ne_of_lt lt)), transforming_withInputs]
  exact congrArg Host.Outcome.next (rndStep_transforming s dir block ⟨n, lt⟩ ins)

theorem commandTransform_of_kvalid {s : State} (key : s.kvalid = true) (dir : Direction) (block : Block) :
    commandTransform dir 64 block s =
      ((s.setHalves (halvesAfter s.rk dir (initialHalves block) 16)).setDir dir).respondOk
        (transform block s.rk dir) := by
  simpa [key] using commandTransform_cases dir 64 block s

/-- The FIN step completes the effect of ENC or DEC at command level (R160, R161). -/
theorem finStep_transforming {s : State} (key : s.kvalid = true) (dir : Direction) (block : Block)
    (ins : List EdgeInput) :
    finStep (s.transforming dir block 16 ins) =
      { (commandTransform dir 64 block s).goto .idle 0 with inputs := ins } := by
  have cntZero : Fin.ofNat 16 16 = 0 := rfl
  rw [commandTransform_of_kvalid key]
  simp only [finStep, State.goto, State.markResponse, State.setRspData, State.respondOk, State.setDir, State.setHalves,
    State.halves, State.transforming, transform, cntZero]

/-- The seventeen edges after the accepting edge of ENC or DEC (R160, R161). -/
theorem run_transforming {s : State} (key : s.kvalid = true) (dir : Direction) (block : Block) {ins : List EdgeInput}
    (noReset : NoReset ins) (length : ins.length = 17) (rest : List EdgeInput) :
    run 17 (s.transforming dir block 0 (ins ++ rest)) =
      .next { (commandTransform dir 64 block s).goto .idle 0 with inputs := rest } := by
  have rounds := run_along_append (stepsAlong_transforming s dir block) noReset rest (j := 16) (by omega) le_rfl
  obtain ⟨e, one⟩ : ∃ e, ins.drop 16 = [e] := List.length_eq_one_iff.mp (by simp [length])
  have rst : e.rst = false := noReset e (List.mem_of_mem_drop (one ▸ List.mem_singleton_self e))
  have finNext : (s.transforming dir block 16 (e :: rest)).ph = .fin := by simp only [State.transforming, if_true]
  rw [one, List.singleton_append] at rounds
  rw [run_add (m := 16) (n := 1) rounds, run_succ (step_fin rfl rst finNext), run_zero, transforming_withInputs,
    finStep_transforming key]

end Sys2Proof.Machine
end

section
/-! SUPPORT. Whole commands at the port (95_test_vectors.md T1): the accepting edge and the edges of the command, from a ready
state to the next ready state. -/

namespace Sys2Proof.Machine

variable {s : State} {ins rest : List EdgeInput}

/-- A well-formed command presented in phase IDLE is executed (R171 to R173). -/
theorem step_present {i : Instr} (wf : i.WellFormed) (idle : s.ph = .idle)
    (presented : s.inputs = EdgeInput.present (encode i) :: rest) : step s = exec i { s with inputs := rest } := by
  rw [step_of_inputs presented]
  simp [edge, EdgeInput.present, EdgeInput.beat, idle, decodeOfEncodeIsInstruction i wf]

theorem run_derive_at_port {key : Block} (idle : s.ph = .idle) (noReset : NoReset ins) (length : ins.length = 16)
    (presented : s.inputs = EdgeInput.present (encode (.derive 64 key)) :: (ins ++ rest)) :
    run 17 s = .next { (commandDerive 64 key s).goto .idle 0 with inputs := rest } := by
  have accepted := (step_present (by rfl) idle presented).trans (exec_derive_of_length key _)
  rw [run_succ accepted, deriving_of_withInputs, run_deriving s key noReset length]

theorem run_transform_at_port {dir : Direction} {block : Block} (idle : s.ph = .idle) (key : s.kvalid = true)
    (noReset : NoReset ins) (length : ins.length = 17)
    (presented : s.inputs = EdgeInput.present (encode (transformInstr dir block)) :: (ins ++ rest)) :
    run 18 s = .next { (commandTransform dir 64 block s).goto .idle 0 with inputs := rest } := by
  have accepted := (step_present (transformInstr_wellFormed dir block) idle presented).trans
    (exec_transform_of_kvalid (s := { s with inputs := ins ++ rest }) key dir block)
  rw [run_succ accepted, transforming_of_withInputs, run_transforming key dir block noReset length]

/-- Ready, with the key set of `key` installed and the inputs `ins` to come. -/
structure ReadyWithKey (key : Block) (ins : List EdgeInput) (s : State) : Prop where
  idle : s.ph = .idle
  kvalid : s.kvalid = true
  rk : s.rk = keySchedule key
  inputs : s.inputs = ins

theorem readyWithKey_of_derive {key : Block} (idle : s.ph = .idle) (noReset : NoReset ins) (length : ins.length = 16)
    (presented : s.inputs = EdgeInput.present (encode (.derive 64 key)) :: (ins ++ rest)) :
    ∃ t, run 17 s = .next t ∧ ReadyWithKey key rest t := by
  refine ⟨_, run_derive_at_port idle noReset length presented, ?_⟩
  rw [commandDerive_of_length]
  exact ⟨rfl, rfl, rfl, rfl⟩

/-- ENC and DEC keep the key set and answer the transform of the block. -/
theorem readyWithKey_of_transform {key block : Block} {dir : Direction} (noReset : NoReset ins)
    (length : ins.length = 17)
    (ready : ReadyWithKey key (EdgeInput.present (encode (transformInstr dir block)) :: (ins ++ rest)) s) :
    ∃ t, run 18 s = .next t ∧ ReadyWithKey key rest t ∧ t.rspValid = true ∧ t.rspErr = .ok ∧
      t.rspData = transform block (keySchedule key) dir := by
  obtain ⟨idle, kvalid, rk, inputs⟩ := ready
  refine ⟨_, run_transform_at_port idle kvalid noReset length inputs, ?_⟩
  rw [commandTransform_of_kvalid kvalid, rk]
  exact ⟨⟨rfl, kvalid, rk, rfl⟩, rfl, rfl, rfl⟩

/-- Settles O34: the three commands in a row; under the key set installed, DEC undoes ENC. -/
theorem portRoundTrip : Obligations.PortRoundTrip := by
  intro s key x y ins1 ins2 ins3 rest idle noReset1 noReset2 noReset3 length1 length2 length3 ciphertext presented
  obtain ⟨s₁, derived, ready₁⟩ := readyWithKey_of_derive idle noReset1 length1 presented
  obtain ⟨s₂, encrypted, ready₂, valid₂, ok₂, data₂⟩ :=
    readyWithKey_of_transform (dir := .encrypt) noReset2 length2 ready₁
  obtain ⟨s₃, decrypted, -, valid₃, ok₃, data₃⟩ :=
    readyWithKey_of_transform (dir := .decrypt) noReset3 length3 ready₂
  have plaintext : transform y (keySchedule key) .decrypt = x := by
    rw [ciphertext]
    exact transform_opposite x (keySchedule key) .encrypt
  exact ⟨s₂, s₃, (run_add (m := 17) (n := 18) derived).trans encrypted, valid₂, ok₂, data₂.trans ciphertext.symm,
    decrypted, valid₃, ok₃, data₃.trans plaintext⟩

end Sys2Proof.Machine
end

section
/-! SUPPORT. The subkeys a direction takes, round by round (43_block_codec.md R153): a transform depends on that series
alone. -/

namespace Sys2Proof.Machine

/-- Two key sets, each taken in a direction of its own, that give every round the same subkey give the same halves. -/
theorem halvesAfter_congr {keys keys' : RoundKeySet} {dir dir' : Direction}
    (same : ∀ n, subkeyAt keys (subkeyIndex dir n) = subkeyAt keys' (subkeyIndex dir' n)) (lr : Half × Half) (n : Nat) :
    halvesAfter keys dir lr n = halvesAfter keys' dir' lr n := by
  induction n with
  | zero => rfl
  | succ n ih => rw [halvesAfter, ih, same, halvesAfter]

theorem transform_congr {keys keys' : RoundKeySet} {dir dir' : Direction}
    (same : ∀ n, subkeyAt keys (subkeyIndex dir n) = subkeyAt keys' (subkeyIndex dir' n)) (block : Block) :
    transform block keys dir = transform block keys' dir' := by
  rw [transform, halvesAfter_congr same, transform]

/-- Entry i of the key set read backwards. -/
theorem subkeyAt_reverse (keys : RoundKeySet) (i : Fin 16) :
    subkeyAt keys.reverse i = subkeyAt keys (subkeyIndex .decrypt i) := by
  simp [subkeyAt, subkeyIndex_val]

/-- Settles O54: round by round by the index each direction takes, which read backwards is the other direction's. -/
theorem subkeyOrder : Obligations.SubkeyOrder := by
  intro keys
  refine ⟨fun lr n => ⟨halvesAfter_succ keys .encrypt lr n, fun m hm => ?_⟩, transform_congr fun n => ?_⟩
  · have index : subkeyIndex .decrypt n = m := Fin.ext ((subkeyIndex_val .decrypt n).trans hm.symm)
    rw [halvesAfter_succ, index]
  · exact (subkeyAt_reverse keys n).symm

/-- With all subkeys zero the order of the subkeys does not show (R160). -/
theorem encrypt_eq_decrypt_of_zero_subkeys {keys : RoundKeySet} (zero : ∀ i, subkeyAt keys i = 0#48) (block : Block) :
    encrypt block keys = decrypt block keys :=
  transform_congr (fun _ => (zero _).trans (zero _).symm) block

/-- Settles O55: round 16 leaves (R15, L15 xor F(R15, k16)), and FP takes the right half first. -/
theorem lastSwapIsNotUndone : Obligations.LastSwapIsNotUndone := by
  intro x keys dir l15 r15 fifteen
  have sixteen : halvesAfter keys dir (initialHalves x) 16 =
      feistelRound (l15, r15) (subkeyAt keys (subkeyIndex dir 15)) :=
    fifteen ▸ halvesAfter_succ keys dir (initialHalves x) 15
  rw [transform, sixteen, feistelRound, finalBlock]

/-- Settles O56: decryption is the direction opposite to encryption. -/
theorem decryptUndoesEncrypt : Obligations.DecryptUndoesEncrypt := fun x keys => transform_opposite x keys .encrypt

end Sys2Proof.Machine
end

section
/-! SUPPORT. ENC and DEC whole (43_block_codec.md R158, R160, R161): refused, answered after seventeen edges, or discarded by
a reset. -/

namespace Sys2Proof.Machine

/-- Settles O26: each case of an acceptance, read field by field. -/
theorem acceptanceFrames : Obligations.AcceptanceFrames := by
  intro i s t h
  rcases exec_cases h with ⟨e, rfl⟩ | ⟨dir, block, cmd, -, rfl⟩ | ⟨key, rfl, rfl⟩ | ⟨ignored, idx, data, rfl, -, rfl⟩
  · exact ⟨rfl, rfl, fun _ _ _ => ⟨rfl, rfl, rfl⟩, fun _ _ _ => ⟨rfl, rfl, rfl⟩, fun _ _ _ _ => rfl⟩
  · refine ⟨rfl, rfl, fun _ _ _ => ⟨rfl, rfl, rfl⟩, fun _ _ isDerive => ?_, fun _ _ _ isRdk => ?_⟩
    · simp [isDerive] at cmd
    · simp [isRdk] at cmd
  · refine ⟨rfl, rfl, fun _ _ isTransform => ?_, fun _ _ _ => ⟨rfl, rfl, rfl⟩, fun _ _ _ isRdk => ?_⟩
    · exact isTransform.elim Instr.noConfusion Instr.noConfusion
    · exact Instr.noConfusion isRdk
  · exact ⟨rfl, rfl, fun _ _ _ => ⟨rfl, rfl, rfl⟩, fun _ _ _ => ⟨rfl, rfl, rfl⟩, fun _ _ _ _ => rfl⟩

theorem exec_enc (len : Nat) (block : Block) (s : State) :
    exec (.enc len block) s = .next (acceptTransform .encrypt len block s) := rfl

theorem exec_dec (len : Nat) (block : Block) (s : State) :
    exec (.dec len block) s = .next (acceptTransform .decrypt len block s) := rfl

theorem acceptTransform_of_noKey {s : State} (noKey : s.kvalid = false) (dir : Direction) (block : Block) :
    acceptTransform dir 64 block s = s.raise .noKey := by
  simpa [noKey] using acceptTransform_cases dir 64 block s

/-- The accepted transform of either direction: the answer after seventeen edges, and RESET_STATE after a reset at any of
them. -/
theorem exec_transform_completes {s : State} (key : s.kvalid = true) (dir : Direction) (block : Block)
    {ins : List EdgeInput} (noReset : NoReset ins) (length : ins.length = 17) (rest : List EdgeInput) :
    ∃ t, exec (transformInstr dir block) s = .next t ∧
      run 17 { t with inputs := ins ++ rest } = .next { s with
        l := (halvesAfter s.rk dir (initialHalves block) 16).1, r := (halvesAfter s.rk dir (initialHalves block) 16).2,
        dir := dir, ph := .idle, cnt := 0,
        rspValid := true, rspErr := .ok, rspData := transform block s.rk dir, inputs := rest } ∧
      ∀ (j : Nat) (e : EdgeInput), j ≤ 16 → e.rst = true →
        run (j + 1) { t with inputs := ins.take j ++ e :: rest } = .next { State.reset with inputs := rest } := by
  refine ⟨_, exec_transform_of_kvalid key dir block, ?_, fun j e le rst => ?_⟩ <;> rw [transforming_withInputs]
  · rw [run_transforming key dir block noReset length, commandTransform_of_kvalid key]
    rfl
  · exact run_along_reset (stepsAlong_transforming s dir block) (fun _ _ => rfl) noReset rest (by omega) le rst

/-- Settles O27: the two refusals of an acceptance, and the completed transform in the direction ENCRYPT. -/
theorem encEncryptsTheBlock : Obligations.EncEncryptsTheBlock := by
  intro s len x ins rest noReset length
  refine ⟨fun wrong => ?_, fun noKey => ?_, fun key => ?_⟩
  · rw [exec_enc, acceptTransform_of_length_ne wrong, State.raise]
  · rw [exec_enc, acceptTransform_of_noKey noKey, State.raise]
  · obtain ⟨t, accepted, answered, discarded⟩ := exec_transform_completes key .encrypt x noReset length rest
    exact ⟨t, accepted, answered, fun zero => encrypt_eq_decrypt_of_zero_subkeys zero x, discarded⟩

/-- Settles O28: the two refusals of an acceptance, and the completed transform in the direction DECRYPT. -/
theorem decDecryptsTheBlock : Obligations.DecDecryptsTheBlock := by
  intro s len x ins rest noReset length
  refine ⟨fun wrong => ?_, fun noKey => ?_, fun key => ?_⟩
  · rw [exec_dec, acceptTransform_of_length_ne wrong, State.raise]
  · rw [exec_dec, acceptTransform_of_noKey noKey, State.raise]
  · obtain ⟨t, accepted, answered, discarded⟩ := exec_transform_completes key .decrypt x noReset length rest
    exact ⟨t, accepted, answered, fun zero => encrypt_eq_decrypt_of_zero_subkeys zero x, discarded⟩

/-- Seventeen edges after its acceptance at the port, a transform has answered with a value of RK and the block (R158). -/
theorem transform_answers_at_port {s : State} {ins rest : List EdgeInput} {dir : Direction} {block : Block}
    (idle : s.ph = .idle) (key : s.kvalid = true) (noReset : NoReset ins) (length : ins.length = 17)
    (presented : s.inputs = EdgeInput.present (encode (transformInstr dir block)) :: (ins ++ rest)) :
    ∃ t, run 18 s = .next t ∧ t.rspValid = true ∧ t.rspData = transform block s.rk dir := by
  refine ⟨_, run_transform_at_port idle key noReset length presented, ?_⟩
  rw [commandTransform_of_kvalid key]
  exact ⟨rfl, rfl⟩

/-- Settles O33: both answers are the transform of the block under the common RK. -/
theorem resultDependsOnKeyAndOperandOnly : Obligations.ResultDependsOnKeyAndOperandOnly := by
  intro s t x i insS insT restS restT cmd idleS idleT keyS keyT rk noResetS noResetT lengthS lengthT presentedS presentedT
  obtain ⟨dir, rfl⟩ : ∃ dir, i = transformInstr dir x := cmd.elim (⟨.encrypt, ·⟩) (⟨.decrypt, ·⟩)
  obtain ⟨s', ranS, validS, dataS⟩ := transform_answers_at_port idleS keyS noResetS lengthS presentedS
  obtain ⟨t', ranT, validT, dataT⟩ := transform_answers_at_port idleT keyT noResetT lengthT presentedT
  exact ⟨s', t', ranS, ranT, validS, validT, by rw [dataS, dataT, rk]⟩

end Sys2Proof.Machine
end

section
/-! SUPPORT. One edge by the phase it meets (44_sequencer.md R171, R172, R180, R185): what an edge that accepts, an
edge in a busy phase and an idle edge do, and that no edge stops the machine. -/

namespace Sys2Proof.Machine

variable {s t : State} {e e' : EdgeInput} {rest : List EdgeInput}

/-- An edge that accepts executes the beat on its port (R172, R173). -/
theorem step_accept (listed : s.inputs = e :: rest) (rst : e.rst = false) (idle : s.ph = .idle)
    (valid : e.cmdValid = true) : step s = exec (decode e.beat) { s with inputs := rest } := by
  rw [step_of_inputs listed]
  simp [edge, rst, idle, valid]

/-- The placement makes the sequencer ready for the beat it presents (log 6). -/
theorem step_presentNext (s : State) (b : Beat) :
    step (s.presentNext b) = exec (decode b) { s with ph := .idle, inputs := s.inputs.tail } :=
  step_accept (s := s.presentNext b) (e := .present b) rfl rfl rfl rfl

/-- Settles O7: the beat of the edge is its `cmd` and its `cmd_data`. -/
theorem stepRunsDecodedInstruction : Obligations.StepRunsDecodedInstruction :=
  fun _ _ _ listed rst idle valid => step_accept listed rst idle valid

/-- Every number below 512 is the number of a command word (R71, R78). -/
theorem decodeNumber_of_lt {w : Nat} (h : w < 512) (x : Block) :
    decodeNumber w x = .ok (decode { cmd := BitVec.ofNat 9 w, data := x }) := by
  rw [decodeNumber, if_pos h]

/-- Settles O6: a number of nine bits is its own remainder by 2^16, in the decoder and in the placement. -/
theorem placedTableWordRuns : Obligations.PlacedTableWordRuns := by
  intro s w h
  have small : w % 2 ^ 16 = w := Nat.mod_eq_of_lt (by omega)
  constructor
  · rw [decodeTableWord, small, decodeNumber_of_lt h]
  · have placed : s.withFetchWord 16 w = s.presentNext { cmd := BitVec.ofNat 9 w, data := 0#64 } := by
      rw [State.withFetchWord, tableBeat, small]
    rw [placed, step_presentNext]

theorem exec_proceeds (i : Instr) (s : State) : Proceeds (exec i s) := by
  cases i with
  | enc len block => exact ⟨_, exec_enc len block s⟩
  | dec len block => exact ⟨_, exec_dec len block s⟩
  | derive len key => exact ⟨_, exec_derive len key s⟩
  | rdk ignored idx data => exact ⟨_, exec_rdk ignored idx data s⟩

/-- Reset, then the phase (R171): each of them has a next state. -/
theorem edge_proceeds (e : EdgeInput) (s : State) : Proceeds (edge e s) := by
  simp only [edge]
  cases e.rst with
  | true => exact ⟨_, rfl⟩
  | false =>
    cases s.ph with
    | idle =>
      cases e.cmdValid with
      | true => exact exec_proceeds (decode e.beat) s
      | false => exact ⟨_, rfl⟩
    | ks | rnd | fin => exact ⟨_, rfl⟩

/-- Settles O8: a step is an edge. -/
theorem everyEdgeHasANextState : Obligations.EveryEdgeHasANextState := fun s => edge_proceeds s.sampled s.consumeInput

/-- In a busy phase an edge looks at `rst` alone (R185). -/
theorem edge_busy_congr (rst : e.rst = false) (rst' : e'.rst = false) (busy : s.ph ≠ .idle) :
    edge e s = edge e' s := by
  cases ph : s.ph with
  | idle => exact absurd ph busy
  | ks | rnd | fin => simp [edge, ph, rst, rst']

/-- The steps of a command in execution write no error, and each takes its own edge off the list (R177 to R179). -/
theorem rspErr_inputs_of_busy_step (h : step s = .next t) (rst : s.sampled.rst = false) (busy : s.ph ≠ .idle) :
    t.rspErr = s.rspErr ∧ t.inputs = s.inputs.tail := by
  cases stepEffect_of_step h with
  | reset rst' => exact absurd (rst.symm.trans rst') Bool.false_ne_true
  | refuse acc | loadBlock acc | loadKey acc | answerSubkey acc => exact absurd (accepts_iff.mp acc).2.1 busy
  | hold _ idle => exact absurd idle busy
  | keyRound | lastKeyRound | blockRound | lastBlockRound | finish => simp

/-- Settles O15: a busy edge does not look at the port, and an idle one accepts what it finds there. -/
theorem commandsWhileBusyAreIgnored : Obligations.CommandsWhileBusyAreIgnored := by
  intro s e e' rest rst rst'
  refine ⟨fun busy => ⟨?_, fun t h => rspErr_inputs_of_busy_step h rst busy⟩,
    fun idle valid => step_accept rfl rst idle valid⟩
  rw [step_of_inputs rfl, step_of_inputs rfl]
  exact edge_busy_congr rst rst' busy

/-- Settles O11: by induction on the idle edges, each of which takes itself off the list and changes nothing else. -/
theorem idleEdgesHoldTheState : Obligations.IdleEdgesHoldTheState := by
  intro s ins rest listed idle quiet
  induction ins generalizing s with
  | nil =>
    obtain rfl : s.inputs = rest := listed
    rfl
  | cons e ins ih =>
    obtain ⟨⟨rst, notValid⟩, quietLater⟩ := List.forall_mem_cons.mp quiet
    rw [List.length_cons, run_succ (step_quiet listed rst idle notValid)]
    exact ih { s with inputs := ins ++ rest } rfl idle quietLater

end Sys2Proof.Machine
end

section
/-! SUPPORT. The steps of a command in execution as updates of the record (44_sequencer.md R177 to R179), and the
acceptances of R174 and R175. -/

namespace Sys2Proof.Machine

variable {s : State}

/-- The rotation amounts of R93: one position in rounds 1, 2, 9 and 16. -/
theorem shiftAmount_eq : ∀ n : Fin 16, shiftAmount n = if n.val ∈ [0, 1, 8, 15] then 1 else 2 := by decide

theorem val_succ_of_lt {n : Fin 16} (h : n.val < 15) : (n + 1).val = n.val + 1 :=
  Fin.val_add_one_of_lt (Fin.lt_def.mpr h)

theorem ksStep_of_last (last : s.cnt = 15) :
    ksStep s = ((((s.setKeyHalves (rotateKeyHalves s.cnt s.keyPair)).setSubkey s.cnt
      (selectSubkey (rotateKeyHalves s.cnt s.keyPair))).goto .idle 0).setKvalid true).markResponse := by
  simpa [last] using ksStep_cases s

theorem ksStep_of_not_last (notLast : s.cnt ≠ 15) :
    ksStep s = ((s.setKeyHalves (rotateKeyHalves s.cnt s.keyPair)).setSubkey s.cnt
      (selectSubkey (rotateKeyHalves s.cnt s.keyPair))).goto .ks (s.cnt + 1) := by
  simpa [notLast] using ksStep_cases s

theorem rndStep_of_last (last : s.cnt = 15) :
    rndStep s = (s.setHalves (feistelRound s.halves (s.subkey (subkeyIndex s.dir s.cnt)))).goto .fin 0 := by
  simpa [last] using rndStep_cases s

theorem rndStep_of_not_last (notLast : s.cnt ≠ 15) :
    rndStep s =
      (s.setHalves (feistelRound s.halves (s.subkey (subkeyIndex s.dir s.cnt)))).goto .rnd (s.cnt + 1) := by
  simpa [notLast] using rndStep_cases s

/-- Settles O12: the rotation of the round the counter names, and the two cases of the counter. -/
theorem ksStepDerivesOneSubkey : Obligations.KsStepDerivesOneSubkey := by
  intro s e rest listed rst ks a amount
  obtain rfl : a = shiftAmount s.cnt := amount.trans (shiftAmount_eq s.cnt).symm
  rw [step_ks listed rst ks]
  refine ⟨fun last => ?_, fun lt => ⟨s.cnt + 1, val_succ_of_lt lt, ?_⟩⟩
  · rw [ksStep_of_last (s := { s with inputs := rest }) (Fin.ext last)]
    rfl
  · rw [ksStep_of_not_last (s := { s with inputs := rest }) (Fin.ne_of_lt lt), ← ks]
    rfl

/-- Settles O13: the subkey the direction takes in the round the counter names, and the two cases of the counter. -/
theorem rndStepIsOneRound : Obligations.RndStepIsOneRound := by
  intro s e rest listed rst rnd i index
  obtain rfl : i = subkeyIndex s.dir s.cnt := by
    refine Fin.ext (index.trans ?_)
    rw [subkeyIndex_val]
    cases s.dir <;> rfl
  rw [step_rnd listed rst rnd]
  refine ⟨fun last => ?_, fun lt => ⟨s.cnt + 1, val_succ_of_lt lt, ?_⟩⟩
  · rw [rndStep_of_last (s := { s with inputs := rest }) (Fin.ext last)]
    rfl
  · rw [rndStep_of_not_last (s := { s with inputs := rest }) (Fin.ne_of_lt lt), ← rnd]
    rfl

/-- Settles O14: the halves joined with the right one first; CNT goes where it was. -/
theorem finStepWritesTheResult : Obligations.FinStepWritesTheResult := by
  intro s e rest listed rst fin
  rw [step_fin listed rst fin]
  rfl

/-- Settles O18: the three cases of an acceptance, in each direction. -/
theorem transformAcceptance : Obligations.TransformAcceptance := by
  intro s len x
  simp only [exec_enc, exec_dec]
  refine ⟨fun wrong => ?_, fun noKey => ?_, fun key => ?_⟩
  · simp only [acceptTransform_of_length_ne wrong]
    exact ⟨rfl, rfl⟩
  · simp only [acceptTransform_of_noKey noKey]
    exact ⟨rfl, rfl⟩
  · simp only [acceptTransform_of_kvalid key]
    exact ⟨rfl, rfl⟩

/-- Settles O19: both cases of an acceptance; after the accepting edge the run follows the states of `deriving`, and
KVALID waits for the sixteenth. -/
theorem deriveAcceptance : Obligations.DeriveAcceptance := by
  intro s len key
  refine ⟨fun wrong => ?_, ?_, fun t u ins rest accepted noReset short reached => ?_⟩
  · rw [exec_derive, acceptDerive_of_length_ne wrong]
    rfl
  · rw [exec_derive, acceptDerive_of_length]
    rfl
  · rw [exec_derive_of_length] at accepted
    cases accepted
    rw [deriving_withInputs, run_along (stepsAlong_deriving s key) noReset rest (by omega)] at reached
    cases reached
    have notDone : 0 + ins.length ≠ 16 := by omega
    exact ⟨decide_eq_false notDone, if_neg notDone⟩

end Sys2Proof.Machine
end

section
/-! SUPPORT. The transitions of the sequencer (44_sequencer.md R181), from the acceptances and the steps of a
command in execution. -/

namespace Sys2Proof.Machine

variable {i : Instr} {s t : State}

/-- Only a refusal leaves an error, and it does nothing else (R206). -/
theorem eq_raise_of_error (h : exec i s = .next t) (error : t.rspErr ≠ .ok) : ∃ e, t = s.raise e := by
  rcases exec_cases h with refused | ⟨_, _, _, _, rfl⟩ | ⟨_, _, rfl⟩ | ⟨_, _, _, _, _, rfl⟩
  · exact refused
  all_goals exact absurd rfl error

/-- RDK moves nothing in the sequencer, whether it answers or is refused (R176). -/
theorem acceptRdk_ph_cnt (idx : Fin 16) (s : State) :
    (acceptRdk idx s).ph = s.ph ∧ (acceptRdk idx s).cnt = s.cnt := by
  rcases acceptRdk_cases idx s with ⟨-, e⟩ | ⟨-, e⟩ <;> rw [e] <;> exact ⟨rfl, rfl⟩

/-- Where an acceptance takes the sequencer, command by command. -/
theorem transitions_of_accepted (h : exec i s = .next t) (idle : s.ph = .idle) (cnt : s.cnt.val = 0) :
    (∀ x, (i = .enc 64 x ∨ i = .dec 64 x) → s.kvalid = true → t.ph = .rnd ∧ t.cnt.val = 0) ∧
    (∀ x, i = .derive 64 x → t.ph = .ks ∧ t.cnt.val = 0) ∧
    (t.rspErr ≠ .ok → t.ph = .idle ∧ t.cnt.val = 0) ∧
    (∀ a j x, i = .rdk a j x → t.ph = .idle ∧ t.cnt.val = 0) := by
  refine ⟨fun x transform key => ?_, fun x derive => ?_, fun error => ?_, fun a j x rdk => ?_⟩
  · obtain ⟨dir, rfl⟩ : ∃ dir, i = transformInstr dir x := transform.elim (⟨.encrypt, ·⟩) (⟨.decrypt, ·⟩)
    rw [exec_transform_of_kvalid key] at h
    cases h
    exact ⟨rfl, rfl⟩
  · rw [derive, exec_derive_of_length] at h
    cases h
    exact ⟨rfl, rfl⟩
  · obtain ⟨e, rfl⟩ := eq_raise_of_error h error
    exact ⟨idle, cnt⟩
  · rw [rdk, exec_rdk] at h
    cases h
    obtain ⟨phKept, cntKept⟩ := acceptRdk_ph_cnt j s
    exact ⟨phKept.trans idle, (congrArg Fin.val cntKept).trans cnt⟩

/-- Settles O17: the idle rows by the kind of edge, the rows of a busy phase by the record its step leaves. -/
theorem sequencerTransitions : Obligations.SequencerTransitions := by
  intro s t e rest listed rst zero h
  have ksRows := fun ks => ksStepDerivesOneSubkey s e rest listed rst ks _ rfl
  have rndRows := fun rnd => rndStepIsOneRound s e rest listed rst rnd (subkeyIndex s.dir s.cnt)
    (by rw [subkeyIndex_val]; cases s.dir <;> rfl)
  refine ⟨fun idle quiet => ?_, fun idle valid i cmd => ?_, fun ks lt => ?_, fun ks last => ?_, fun rnd lt => ?_,
    fun rnd last => ?_, fun fin => ?_⟩
  · cases (step_quiet listed rst idle quiet).symm.trans h
    exact ⟨idle, congrArg Fin.val (zero (.inl idle))⟩
  · have accepted : exec i { s with inputs := rest } = .next t :=
      cmd ▸ (step_accept listed rst idle valid).symm.trans h
    exact transitions_of_accepted (s := { s with inputs := rest }) accepted idle (congrArg Fin.val (zero (.inl idle)))
  · obtain ⟨n, next, stepped⟩ := (ksRows ks).2 lt
    cases stepped.symm.trans h
    exact ⟨ks, next⟩
  · cases ((ksRows ks).1 last).symm.trans h
    exact ⟨rfl, rfl⟩
  · obtain ⟨n, next, stepped⟩ := (rndRows rnd).2 lt
    cases stepped.symm.trans h
    exact ⟨rnd, next⟩
  · cases ((rndRows rnd).1 last).symm.trans h
    exact ⟨rfl, rfl⟩
  · cases (finStepWritesTheResult s e rest listed rst fin).symm.trans h
    exact ⟨rfl, congrArg Fin.val (zero (.inr fin))⟩

end Sys2Proof.Machine
end

section
/-! SUPPORT. The edges between an acceptance and its answer (44_sequencer.md R182). -/

namespace Sys2Proof.Machine

/-- The next edge accepts a command; `n` edges after it, and not before, the block is ready again and has answered. -/
def AnswersAt (n : Nat) (s : State) : Prop :=
  (∀ j < n, ∃ t, run (j + 1) s = .next t ∧ (outputs t).busy = true ∧ (outputs t).rspValid = false) ∧
    ∃ t, run (n + 1) s = .next t ∧ (outputs t).cmdReady = true ∧ (outputs t).rspValid = true

variable {s t : State} {i : Instr} {ins rest : List EdgeInput} {n : Nat}

theorem answersAt_zero (accepted : step s = .next t) (idle : t.ph = .idle) (valid : t.rspValid = true) :
    AnswersAt 0 s :=
  ⟨fun _ lt => absurd lt (Nat.not_lt_zero _), t, run_succ accepted, outputs_cmdReady_iff.mpr idle, valid⟩

/-- A command whose edges follow a series of busy states without a response, and end in a ready one with a response. -/
theorem answersAt_of_along {F : Nat → List EdgeInput → State} {bound : Nat} (along : StepsAlong F bound)
    (accepted : step s = .next (F 0 (ins ++ rest))) (noReset : NoReset ins) (length : ins.length = n)
    (within : n ≤ bound + 1) (busy : ∀ j < n, ∀ ins, (F j ins).ph ≠ .idle ∧ (F j ins).rspValid = false)
    (completed : run n (F 0 (ins ++ rest)) = .next t) (idle : t.ph = .idle) (valid : t.rspValid = true) :
    AnswersAt n s := by
  refine ⟨fun j lt => ?_, t, (run_succ accepted).trans completed, outputs_cmdReady_iff.mpr idle, valid⟩
  obtain ⟨notIdle, noResponse⟩ := busy j lt (ins.drop j ++ rest)
  have reached := run_along_append along noReset rest (j := j) (by omega) (by omega)
  exact ⟨_, (run_succ accepted).trans reached, decide_eq_true notIdle, noResponse⟩

theorem acceptTransform_eq_transforming (key : s.kvalid = true) (dir : Direction) (block : Block) :
    acceptTransform dir 64 block s = s.transforming dir block 0 s.inputs :=
  Host.Outcome.next.inj ((exec_transformInstr dir block s).symm.trans (exec_transform_of_kvalid key dir block))

/-- A transform is in RND, and after its last round in FIN. -/
theorem transforming_not_idle (s : State) (dir : Direction) (block : Block) (n : Nat) (ins : List EdgeInput) :
    (s.transforming dir block n ins).ph ≠ .idle := by
  simp only [State.transforming]
  split_ifs <;> decide

/-- The first two rows of the table, for either direction. -/
theorem answersAt_of_transform {dir : Direction} {len : Nat} {block : Block}
    (accept : ∀ s, exec i s = .next (acceptTransform dir len block s)) (wf : i.WellFormed) (idle : s.ph = .idle)
    (noReset : NoReset ins) (presented : s.inputs = EdgeInput.present (encode i) :: (ins ++ rest))
    (entry : n = if len = 64 ∧ s.kvalid = true then 17 else 0) (length : ins.length = n) : AnswersAt n s := by
  have accepted := (step_present wf idle presented).trans (accept _)
  rcases acceptTransform_cases dir len block { s with inputs := ins ++ rest } with
    ⟨wrong, e⟩ | ⟨rfl, noKey, e⟩ | ⟨rfl, key, -⟩
  · obtain rfl : n = 0 := by simpa [wrong] using entry
    rw [e] at accepted
    exact answersAt_zero accepted idle rfl
  · change s.kvalid = false at noKey
    obtain rfl : n = 0 := by simpa [noKey] using entry
    rw [e] at accepted
    exact answersAt_zero accepted idle rfl
  · rw [acceptTransform_eq_transforming key, transforming_of_withInputs] at accepted
    change s.kvalid = true at key
    obtain rfl : n = 17 := by simpa [key] using entry
    refine answersAt_of_along (stepsAlong_transforming s dir block) accepted noReset length le_rfl
      (fun j _ ins => ⟨transforming_not_idle s dir block j ins, rfl⟩)
      (run_transforming key dir block noReset length rest) rfl ?_
    rw [commandTransform_of_kvalid key]
    rfl

theorem answersAt_of_derive {len : Nat} {key : Block} (wf : (Instr.derive len key).WellFormed) (idle : s.ph = .idle)
    (noReset : NoReset ins) (presented : s.inputs = EdgeInput.present (encode (.derive len key)) :: (ins ++ rest))
    (entry : n = if len = 64 then 16 else 0) (length : ins.length = n) : AnswersAt n s := by
  by_cases right : len = 64
  · subst right
    obtain rfl : n = 16 := entry
    have accepted := (step_present wf idle presented).trans (exec_derive_of_length key _)
    rw [deriving_of_withInputs] at accepted
    refine answersAt_of_along (stepsAlong_deriving s key) accepted noReset length (by omega) (fun j lt ins => ?_)
      (run_deriving s key noReset length rest) rfl ?_
    · have notDone : j ≠ 16 := Nat.ne_of_lt lt
      simp [State.deriving, notDone]
    · rw [commandDerive_of_length]
      rfl
  · obtain rfl : n = 0 := entry.trans (if_neg right)
    have accepted := (step_present wf idle presented).trans (exec_derive len key _)
    rw [acceptDerive_of_length_ne right] at accepted
    exact answersAt_zero accepted idle rfl

/-- RDK responds at its accepting edge, with the subkey or with the error (R176). -/
theorem acceptRdk_rspValid (idx : Fin 16) (s : State) : (acceptRdk idx s).rspValid = true := by
  rcases acceptRdk_cases idx s with ⟨-, e⟩ | ⟨-, e⟩ <;> rw [e] <;> rfl

/-- Settles O31: the row of each command; ENC and DEC share theirs. -/
theorem latencyTable : Obligations.LatencyTable := by
  intro s i ins rest wf idle noReset presented n entry length
  cases i with
  | enc len block => exact answersAt_of_transform (exec_enc len block) wf idle noReset presented entry length
  | dec len block => exact answersAt_of_transform (exec_dec len block) wf idle noReset presented entry length
  | derive len key => exact answersAt_of_derive wf idle noReset presented entry length
  | rdk ignored idx data =>
    obtain rfl : n = 0 := entry
    have accepted := (step_present wf idle presented).trans (exec_rdk ignored idx data _)
    exact answersAt_zero accepted ((acceptRdk_ph_cnt idx _).1.trans idle) (acceptRdk_rspValid idx _)

end Sys2Proof.Machine
end

section
/-! SUPPORT. The error responses (60_exceptions.md): the code each acceptance reports (R201 to R204, R208), and what an
error writes (R206). -/

namespace Sys2Proof.Machine

/-- ENC and DEC look at KVALID only under the right length, so 01 has priority over 11 (R208). -/
theorem acceptTransform_code (dir : Direction) (len : Nat) (block : Block) (s : State) :
    ((acceptTransform dir len block s).rspErr.code = 0b01#2 ↔ len ≠ 64) ∧
    (acceptTransform dir len block s).rspErr.code ≠ 0b10#2 ∧
    ((acceptTransform dir len block s).rspErr.code = 0b11#2 ↔ s.kvalid = false ∧ len = 64) := by
  rcases acceptTransform_cases dir len block s with ⟨wrong, e⟩ | ⟨right, noKey, e⟩ | ⟨right, key, e⟩ <;> rw [e]
  · simp [Status.code, ErrorKind.code, wrong]
  · simp [Status.code, ErrorKind.code, right, noKey]
  · simp [Status.code, right, key]

/-- DERIVE reports 10 for its length and no other error: it needs no key (R203, R204). -/
theorem acceptDerive_code (len : Nat) (key : Block) (s : State) :
    (acceptDerive len key s).rspErr.code ≠ 0b01#2 ∧
    ((acceptDerive len key s).rspErr.code = 0b10#2 ↔ len ≠ 64) ∧
    (acceptDerive len key s).rspErr.code ≠ 0b11#2 := by
  rcases acceptDerive_cases len key s with ⟨wrong, e⟩ | ⟨right, e⟩ <;> rw [e]
  · simp [Status.code, ErrorKind.code, wrong]
  · simp [Status.code, right]

/-- RDK has no length and reports only the missing key (R204). -/
theorem acceptRdk_code (idx : Fin 16) (s : State) :
    (acceptRdk idx s).rspErr.code ≠ 0b01#2 ∧
    (acceptRdk idx s).rspErr.code ≠ 0b10#2 ∧
    ((acceptRdk idx s).rspErr.code = 0b11#2 ↔ s.kvalid = false) := by
  rcases acceptRdk_cases idx s with ⟨noKey, e⟩ | ⟨key, e⟩ <;> rw [e]
  · simp [Status.code, ErrorKind.code, noKey]
  · simp [Status.code, key]

/-- Settles O24: the codes of the three acceptances, each read off for the commands it serves. -/
theorem errorsAreReportedExactlyWhen : Obligations.ErrorsAreReportedExactlyWhen := by
  intro i s t h
  cases i with
  | enc len block =>
    rw [exec_enc] at h
    cases h
    obtain ⟨blockLength, notKeyLength, noKey⟩ := acceptTransform_code .encrypt len block s
    simp [blockLength, notKeyLength, noKey]
  | dec len block =>
    rw [exec_dec] at h
    cases h
    obtain ⟨blockLength, notKeyLength, noKey⟩ := acceptTransform_code .decrypt len block s
    simp [blockLength, notKeyLength, noKey]
  | derive len key =>
    rw [exec_derive] at h
    cases h
    obtain ⟨notBlockLength, keyLength, keyNotNeeded⟩ := acceptDerive_code len key s
    simp [notBlockLength, keyLength, keyNotNeeded]
  | rdk ignored idx data =>
    rw [exec_rdk] at h
    cases h
    obtain ⟨notBlockLength, notKeyLength, noKey⟩ := acceptRdk_code idx s
    simp [notBlockLength, notKeyLength, noKey]

/-- The error response as an idle machine shows it in the next cycle (R206, R33). -/
theorem outputs_raise {s : State} (idle : s.ph = .idle) (e : ErrorKind) : outputs (s.raise e) =
    { cmdReady := true, busy := false, keyValid := s.kvalid, rspValid := true, rspErr := e.code, rspData := 0#64 } := by
  simp [outputs, idle, Status.code]

/-- Settles O25: an error is left by `raise` alone, and it is the error raised. -/
theorem errorsWriteOnlyTheResponse : Obligations.ErrorsWriteOnlyTheResponse := by
  intro i s t k h error
  have notOk : t.rspErr ≠ .ok := fun ok => Status.noConfusion (error.symm.trans ok)
  obtain ⟨e, rfl⟩ := eq_raise_of_error h notOk
  obtain rfl : e = k := Status.error.inj error
  exact ⟨rfl, fun idle => outputs_raise idle e⟩

end Sys2Proof.Machine
end

section
/-! SUPPORT. Reset edges (70_reset_and_hazards.md R231 to R233), and the bound on a caller's wait for an answer (R241). -/

namespace Sys2Proof.Machine

/-- RESET_STATE is held through any number of further reset edges, none included. -/
theorem run_resets_of_reset {ins : List EdgeInput} (resets : ∀ e ∈ ins, e.rst = true) (rest : List EdgeInput) :
    run ins.length { State.reset with inputs := ins ++ rest } = .next { State.reset with inputs := rest } := by
  induction ins with
  | nil => rfl
  | cons e ins ih =>
    obtain ⟨rst, resetsLater⟩ := List.forall_mem_cons.mp resets
    rw [List.length_cons, run_succ (step_reset rfl rst)]
    exact ih resetsLater

/-- Settles O10: the first reset edge forgets the state, and the others hold what it leaves. -/
theorem resetEdgesGiveResetState : Obligations.ResetEdgesGiveResetState := by
  intro s ins rest listed nonempty resets
  refine ⟨?_, outputs_cmdReady_iff.mpr rfl⟩
  obtain ⟨e, later, rfl⟩ := List.exists_cons_of_ne_nil nonempty
  obtain ⟨rst, resetsLater⟩ := List.forall_mem_cons.mp resets
  rw [List.length_cons, run_succ (step_reset listed rst)]
  exact run_resets_of_reset resetsLater rest

/-- Settles O32: a refusal and RDK answer at the accepting edge, a transform after seventeen more edges and a derivation
after sixteen. -/
theorem everyCommandAnswersWithinSeventeenEdges : Obligations.EveryCommandAnswersWithinSeventeenEdges := by
  intro i s t ins rest idle h noReset length
  rcases exec_cases h with ⟨e, rfl⟩ | ⟨dir, block, cmd, key, -⟩ | ⟨key, rfl, -⟩ | ⟨ignored, idx, data, -, -, rfl⟩
  · exact ⟨0, _, Nat.zero_le 17, run_zero _, rfl, idle⟩
  · obtain rfl : i = transformInstr dir block := by rcases cmd with ⟨rfl, rfl⟩ | ⟨rfl, rfl⟩ <;> rfl
    obtain ⟨u, accepted, answered, -⟩ := exec_transform_completes key dir block noReset length rest
    cases accepted.symm.trans h
    exact ⟨17, _, le_rfl, answered, rfl, rfl⟩
  · cases (exec_derive_of_length key s).symm.trans h
    have reached := run_along_append (stepsAlong_deriving s key) noReset rest (j := 16) (by omega) le_rfl
    exact ⟨16, _, by omega, reached, rfl, rfl⟩
  · exact ⟨0, _, Nat.zero_le 17, run_zero _, rfl, idle⟩

end Sys2Proof.Machine
end

section
/-! SUPPORT. The round undone (42_feistel_round.md R145), the transform undone (43_block_codec.md R157), F over the flat
S-boxes (R142), and the keys whose halves no rotation moves (41_key_schedule.md R127 item 3). -/

namespace Sys2Proof.Machine

/-- Settles O52: the last swap gives the halves back in their order; the second form is the round read backwards. -/
theorem roundUndoneBySwap : Obligations.RoundUndoneBySwap := by
  intro l r k
  refine ⟨?_, fun l' r' round => ?_⟩
  · rw [feistelRound_swap_feistelRound, Prod.swap_swap]
  · obtain ⟨rfl, rfl⟩ : r = l' ∧ l ^^^ feistel r k = r' := Prod.mk.inj round
    exact ⟨rfl, by rw [BitVec.xor_assoc, BitVec.xor_self, BitVec.xor_zero]⟩

/-- Settles O57: encryption is the direction opposite to decryption. -/
theorem encryptUndoesDecrypt : Obligations.EncryptUndoesDecrypt := fun y keys => transform_opposite y keys .decrypt

/-- The group of each S-box at its place in the 48 bits, looked up in the flat form (R138, R140, R107). -/
theorem substituteGroup_eq_flatEntry (x : BitVec 48) (j : Fin 8) :
    substituteGroup x j = flatEntry j (x.extractLsb' (42 - 6 * j.val) 6) :=
  (flatEntry_eq j (group x j)).symm

/-- Settles O51: group by group the S-box is its flat form. -/
theorem feistelByFlatTables : Obligations.FeistelByFlatTables := by
  rintro right k x rfl
  simp only [feistel, expand, substitute, substituteGroup_eq_flatEntry]
  rfl

/-- All zeros or all ones: the words every rotation leaves as they are. -/
theorem rotateLeft_of_constant {w : Nat} {x : BitVec w} (constant : x = 0#w ∨ x = BitVec.allOnes w) (n : Nat) :
    x.rotateLeft n = x := by
  refine BitVec.eq_of_getMsbD_eq fun i hi => ?_
  have source_lt : (n + i) % w < w := Nat.mod_lt _ (by omega)
  rcases constant with rfl | rfl
  · simp [BitVec.getMsbD_rotateLeft]
  · simp [BitVec.getMsbD_rotateLeft, hi, source_lt]

theorem keyHalves_of_constant {key : Block}
    (left : (initialKeyHalves key).1 = 0#28 ∨ (initialKeyHalves key).1 = BitVec.allOnes 28)
    (right : (initialKeyHalves key).2 = 0#28 ∨ (initialKeyHalves key).2 = BitVec.allOnes 28)
    {n : Nat} (h : n ≤ 16) :
    keyHalves key n = initialKeyHalves key := by
  rw [keyHalves_eq_rotateLeft key h, rotateLeft_of_constant left, rotateLeft_of_constant right]

/-- Settles O50: every round selects its subkey from (C0, D0). -/
theorem constantHalvesGiveOneSubkey : Obligations.ConstantHalvesGiveOneSubkey := by
  intro key left right i j
  rw [subkeyAt_keySchedule, subkeyAt_keySchedule, keyHalves_of_constant left right i.isLt,
    keyHalves_of_constant left right j.isLt]

end Sys2Proof.Machine
end

section
/-! SUPPORT. The two levels agree (44_sequencer.md R186): the edges of each command at the port beside its command-level
rule. -/

namespace Sys2Proof.Machine

variable {s : State}

theorem commandTransform_of_length_ne {len : Nat} (wrong : len ≠ 64) (dir : Direction) (block : Block) (s : State) :
    commandTransform dir len block s = s.raise .invalidBlockLength := by
  simpa [wrong] using commandTransform_cases dir len block s

theorem commandTransform_of_noKey (noKey : s.kvalid = false) (dir : Direction) (block : Block) :
    commandTransform dir 64 block s = s.raise .noKey := by
  simpa [noKey] using commandTransform_cases dir 64 block s

theorem commandDerive_of_length_ne {len : Nat} (wrong : len ≠ 64) (key : Block) (s : State) :
    commandDerive len key s = s.raise .invalidKeyLength := by
  simpa [wrong] using commandDerive_cases len key s

theorem command_transformInstr (dir : Direction) (block : Block) (s : State) :
    command (transformInstr dir block) s = commandTransform dir 64 block s := by
  cases dir <;> rfl

theorem latency_transformInstr (key : s.kvalid = true) (dir : Direction) (block : Block) :
    latency (transformInstr dir block) s = 17 := by
  cases dir <;> simp [latency, transformInstr, lengthOk, Config.operandBits, Config.transformLatency, key]

/-- The accepting edge of `i` in `s` is the whole command, whatever the inputs still to come. -/
def WholeAtAcceptance (i : Instr) (s : State) : Prop :=
  latency i s = 0 ∧ ∀ ins, exec i { s with inputs := ins } = .next { command i s with inputs := ins }

/-- A transform goes on after its accepting edge, or it is refused there in the same way at both levels. -/
theorem acceptTransform_or_refused (dir : Direction) (len : Nat) (block : Block) (s : State) :
    (len = 64 ∧ s.kvalid = true) ∨
    ((lengthOk len && s.kvalid) = false ∧ ∀ ins, acceptTransform dir len block { s with inputs := ins } =
      { commandTransform dir len block s with inputs := ins }) := by
  rcases commandTransform_cases dir len block s with ⟨wrong, e⟩ | ⟨rfl, noKey, e⟩ | ⟨right, key, -⟩
  · refine .inr ⟨by simp [(lengthOk_false_iff len).mpr wrong], fun ins => ?_⟩
    rw [acceptTransform_of_length_ne wrong, e]
    rfl
  · refine .inr ⟨by simp [noKey], fun ins => ?_⟩
    rw [acceptTransform_of_noKey (s := { s with inputs := ins }) noKey, e]
    rfl
  · exact .inl ⟨right, key⟩

theorem acceptRdk_eq_commandRdk (idx : Fin 16) (s : State) (ins : List EdgeInput) :
    acceptRdk idx { s with inputs := ins } = { commandRdk idx s with inputs := ins } := by
  rcases commandRdk_cases idx s with ⟨noKey, e⟩ | ⟨key, e⟩
  · simp [acceptRdk, noKey, e, State.raise]
  · simp [acceptRdk, key, e, State.respondOk, State.subkey]

/-- A transform with its key set and a derivation go on after their accepting edge; every other command is whole there
(R182). -/
theorem transform_or_derive_or_whole (i : Instr) (s : State) :
    (∃ dir block, i = transformInstr dir block ∧ s.kvalid = true) ∨ (∃ key, i = .derive 64 key) ∨
      WholeAtAcceptance i s := by
  cases i with
  | enc len block =>
    rcases acceptTransform_or_refused .encrypt len block s with ⟨rfl, key⟩ | ⟨refused, same⟩
    · exact .inl ⟨.encrypt, block, rfl, key⟩
    · exact .inr (.inr ⟨if_neg (by simp [refused]), fun ins => congrArg _ (same ins)⟩)
  | dec len block =>
    rcases acceptTransform_or_refused .decrypt len block s with ⟨rfl, key⟩ | ⟨refused, same⟩
    · exact .inl ⟨.decrypt, block, rfl, key⟩
    · exact .inr (.inr ⟨if_neg (by simp [refused]), fun ins => congrArg _ (same ins)⟩)
  | derive len key =>
    by_cases right : len = 64
    · exact .inr (.inl ⟨key, by rw [right]⟩)
    · refine .inr (.inr ⟨if_neg (by simp [(lengthOk_false_iff len).mpr right]), fun ins => ?_⟩)
      rw [exec_derive, acceptDerive_of_length_ne right, command, commandDerive_of_length_ne right]
      rfl
  | rdk ignored idx data => exact .inr (.inr ⟨rfl, fun ins => congrArg _ (acceptRdk_eq_commandRdk idx s ins)⟩)

/-- The sequencer's return to IDLE changes nothing where the command-level rule has kept phase and count. -/
theorem goto_idle_zero (idle : s.ph = .idle) (cnt : s.cnt = 0) : s.goto .idle 0 = s := by
  rw [State.goto, ← idle, ← cnt]

/-- Settles O30: a transform after seventeen more edges, a derivation after sixteen, every other command at its
accepting edge. -/
theorem commandLevelAgreesWithTheEdges : Obligations.CommandLevelAgreesWithTheEdges := by
  intro s i ins rest wf idle cnt noReset length presented
  rcases transform_or_derive_or_whole i s with ⟨dir, block, rfl, key⟩ | ⟨key, rfl⟩ | ⟨zero, whole⟩
  · rw [latency_transformInstr key] at length ⊢
    rw [run_transform_at_port idle key noReset length presented, command_transformInstr, commandTransform_of_kvalid key,
      goto_idle_zero]
    exacts [idle, cnt]
  · have sixteen : latency (.derive 64 key) s = 16 := rfl
    rw [sixteen] at length ⊢
    rw [run_derive_at_port idle noReset length presented, command, commandDerive_of_length, goto_idle_zero]
    exacts [idle, cnt]
  · rw [zero] at length ⊢
    obtain rfl : ins = [] := List.eq_nil_of_length_eq_zero length
    rw [run_succ ((step_present wf idle presented).trans (whole rest)), run_zero]

end Sys2Proof.Machine
end

section
/-! SUPPORT. The items of 10_state.md R36 about the sequencer and the response registers are kept by every edge: what
they ask in each phase, then the phase each effect of an edge leads to. -/

namespace Sys2Proof

open Sys2Proof.Machine

variable {s t : State}

/-- They say nothing of the inputs still to come. -/
theorem ControlInv.withInputs (h : ControlInv s) (ins : List EdgeInput) : ControlInv { s with inputs := ins } :=
  { h with }

/-- Ready, with the counter at 0 and a response, whose data is zero if it is an error. -/
theorem controlInv_of_answered (idle : s.ph = .idle) (cnt : s.cnt = 0) (valid : s.rspValid = true)
    (error : s.rspErr ≠ .ok → s.rspData = 0#64) : ControlInv s where
  cntZero _ := cnt
  inKs ks := Phase.noConfusion (idle.symm.trans ks)
  inTransform transforms := by simp [idle] at transforms
  noResponse notValid := absurd (valid.symm.trans notValid) Bool.noConfusion
  errorShown notOk := ⟨valid, error notOk⟩

/-- Deriving: no key set and no response. -/
theorem controlInv_of_ks (ks : s.ph = .ks) (noKey : s.kvalid = false)
    (noAnswer : s.rspValid = false ∧ s.rspErr = .ok ∧ s.rspData = 0#64) : ControlInv s where
  cntZero phase := by simp [ks] at phase
  inKs _ := ⟨noKey, noAnswer.1⟩
  inTransform transforms := by simp [ks] at transforms
  noResponse _ := noAnswer.2
  errorShown notOk := absurd noAnswer.2.1 notOk

/-- Transforming: a key set and no response. -/
theorem controlInv_of_transform (transforms : s.ph = .rnd ∨ s.ph = .fin) (cnt : s.ph = .fin → s.cnt = 0)
    (key : s.kvalid = true) (noAnswer : s.rspValid = false ∧ s.rspErr = .ok ∧ s.rspData = 0#64) : ControlInv s where
  cntZero phase := by
    rcases transforms with rnd | fin
    · simp [rnd] at phase
    · exact cnt fin
  inKs ks := by simp [ks] at transforms
  inTransform _ := ⟨key, noAnswer⟩
  noResponse _ := noAnswer.2
  errorShown notOk := absurd noAnswer.2.1 notOk

/-- Settles O41: each effect of an edge leads to a phase whose items it meets. -/
theorem controlInvariantIsKept : Obligations.ControlInvariantIsKept := by
  intro s t inv h
  cases stepEffect_of_step h with
  | reset => exact controlInv_reset.withInputs _
  | refuse acc e =>
    obtain ⟨-, idle, -⟩ := accepts_iff.mp acc
    exact controlInv_of_answered idle (inv.cntZero (.inl idle)) rfl fun _ => rfl
  | answerSubkey acc =>
    obtain ⟨-, idle, -⟩ := accepts_iff.mp acc
    exact controlInv_of_answered idle (inv.cntZero (.inl idle)) rfl fun notOk => absurd rfl notOk
  | loadBlock _ key => exact controlInv_of_transform (.inl rfl) (fun _ => rfl) key ⟨rfl, rfl, rfl⟩
  | loadKey => exact controlInv_of_ks rfl rfl ⟨rfl, rfl, rfl⟩
  | hold => exact inv.withInputs _
  | keyRound _ ks =>
    exact controlInv_of_ks rfl (inv.inKs ks).1 (inv.response_zero_of_busy (by simp [ks]))
  | lastKeyRound _ ks =>
    obtain ⟨-, ok, -⟩ := inv.response_zero_of_busy (by simp [ks])
    exact controlInv_of_answered rfl rfl rfl fun notOk => absurd ok notOk
  | blockRound _ rnd =>
    obtain ⟨key, noAnswer⟩ := inv.inTransform (.inl rnd)
    exact controlInv_of_transform (.inl rfl) (fun fin => Phase.noConfusion fin) key noAnswer
  | lastBlockRound _ rnd =>
    obtain ⟨key, noAnswer⟩ := inv.inTransform (.inl rnd)
    exact controlInv_of_transform (.inr rfl) (fun _ => rfl) key noAnswer
  | finish _ fin =>
    obtain ⟨-, -, ok, -⟩ := inv.inTransform (.inr fin)
    exact controlInv_of_answered rfl (inv.cntZero (.inr fin)) rfl fun notOk => absurd ok notOk

end Sys2Proof
end

section
/-! SUPPORT. The whole invariant of 10_state.md R36 is kept for the work a claim carries: what the items about the keys
and the halves ask in each phase, then the phase each effect of an edge leads to. -/

namespace Sys2Proof

open Sys2Proof.Machine

variable {w : Work} {s t : State}

/-! The two kinds of edge looked at beside their effect. -/

theorem step_of_accepts (acc : accepts s.sampled s = true) :
    step s = exec (decode s.sampled.beat) s.consumeInput := by
  obtain ⟨rst, idle, valid⟩ := accepts_iff.mp acc
  simp [step, edge, rst, idle, valid]

theorem step_of_fin (rst : s.sampled.rst = false) (fin : s.ph = .fin) : step s = .next (finStep s.consumeInput) := by
  simp [step, edge, rst, fin]

/-! The work after an acceptance: it moves with the command, and a refused command moves nothing. -/

/-- The error raised says why the command is no new work (R201, R208). -/
theorem Work.next_of_refused {e : ErrorKind} (acc : accepts s.sampled s = true)
    (h : step s = .next (s.consumeInput.raise e)) : w.next s = w := by
  obtain ⟨blockLength, keyLength, noKey⟩ := errorsAreReportedExactlyWhen _ _ _ ((step_of_accepts acc).symm.trans h)
  cases e with
  | invalidBlockLength =>
    obtain ⟨len, x, wrong, cmd | cmd⟩ := blockLength.mp rfl <;> simp [Work.next, cmd, wrong]
  | invalidKeyLength =>
    obtain ⟨len, x, wrong, cmd⟩ := keyLength.mp rfl
    simp [Work.next, cmd, wrong]
  | noKey =>
    obtain ⟨keyless, needsKey⟩ := noKey.mp rfl
    rw [State.consumeInput_kvalid] at keyless
    obtain ⟨x, cmd | cmd⟩ | ⟨ignored, idx, x, cmd⟩ := needsKey <;> simp [Work.next, cmd, keyless]

/-- An accepted transform is the new block and direction, under the same key. -/
theorem Work.next_of_loadBlock {dir : Direction} {block : Block} (acc : accepts s.sampled s = true)
    (key : s.kvalid = true)
    (cmd : (decode s.sampled.beat = .enc 64 block ∧ dir = .encrypt) ∨
      (decode s.sampled.beat = .dec 64 block ∧ dir = .decrypt)) :
    w.next s = { w with block := block, dir := dir } := by
  obtain ⟨enc, dec, -⟩ := Work.next_of_accepted (w := w) acc
  rcases cmd with ⟨cmd, rfl⟩ | ⟨cmd, rfl⟩
  · exact enc block cmd key
  · exact dec block cmd key

/-! What the items about data ask, phase by phase. -/

theorem DataInv.withInputs (h : DataInv w s) (ins : List EdgeInput) : DataInv w { s with inputs := ins } :=
  { h with }

theorem dataInv_of_idle (idle : s.ph = .idle) (keySet : s.kvalid = true → s.rk = keySchedule w.key) :
    DataInv w s where
  keySet := keySet
  inKs ks := Phase.noConfusion (idle.symm.trans ks)
  inRnd rnd := Phase.noConfusion (idle.symm.trans rnd)
  inFin fin := Phase.noConfusion (idle.symm.trans fin)

theorem dataInv_of_ks (ks : s.ph = .ks) (noKey : s.kvalid = false) (halves : s.keyPair = keyHalves w.key s.cnt.val)
    (derived : ∀ i < s.cnt, s.subkey i = selectSubkey (keyHalves w.key (i.val + 1))) : DataInv w s where
  keySet key := absurd (noKey.symm.trans key) Bool.noConfusion
  inKs _ := ⟨halves, derived⟩
  inRnd rnd := Phase.noConfusion (ks.symm.trans rnd)
  inFin fin := Phase.noConfusion (ks.symm.trans fin)

theorem dataInv_of_rnd (rnd : s.ph = .rnd) (keySet : s.kvalid = true → s.rk = keySchedule w.key) (dir : s.dir = w.dir)
    (halves : s.halves = halvesAfter s.rk w.dir (initialHalves w.block) s.cnt.val) : DataInv w s where
  keySet := keySet
  inKs ks := Phase.noConfusion (rnd.symm.trans ks)
  inRnd _ := ⟨dir, halves⟩
  inFin fin := Phase.noConfusion (rnd.symm.trans fin)

theorem dataInv_of_fin (fin : s.ph = .fin) (keySet : s.kvalid = true → s.rk = keySchedule w.key) (dir : s.dir = w.dir)
    (halves : s.halves = halvesAfter s.rk w.dir (initialHalves w.block) 16) : DataInv w s where
  keySet := keySet
  inKs ks := Phase.noConfusion (fin.symm.trans ks)
  inRnd rnd := Phase.noConfusion (fin.symm.trans rnd)
  inFin _ := ⟨dir, halves⟩

/-! One round in KS and one in RND, from the items of the phase. -/

/-- The rotation of the round in KS gives the next halves of the key being derived (R122, R177). -/
theorem DataInv.rotated (inv : DataInv w s) (ks : s.ph = .ks) :
    rotateKeyHalves s.cnt s.keyPair = keyHalves w.key (s.cnt.val + 1) := by
  obtain ⟨halves, -⟩ := inv.inKs ks
  rw [halves, keyHalves_succ]

/-- Writing the subkey of the round beside those already derived (R123, R177). -/
theorem DataInv.derived_succ (inv : DataInv w s) (ks : s.ph = .ks) {i : Fin 16} (le : i ≤ s.cnt) :
    (s.setSubkey s.cnt (selectSubkey (keyHalves w.key (s.cnt.val + 1)))).subkey i =
      selectSubkey (keyHalves w.key (i.val + 1)) := by
  obtain ⟨-, derived⟩ := inv.inKs ks
  rw [State.subkey_setSubkey]
  split_ifs with written
  · rw [written]
  · exact derived i (lt_of_le_of_ne le (Ne.symm written))

/-- The round of RND gives the next halves of the block being transformed (R152, R178). -/
theorem DataInv.round (inv : DataInv w s) (rnd : s.ph = .rnd) :
    feistelRound s.halves (s.subkey (subkeyIndex s.dir s.cnt)) =
      halvesAfter s.rk w.dir (initialHalves w.block) (s.cnt.val + 1) := by
  obtain ⟨dir, halves⟩ := inv.inRnd rnd
  rw [halves, dir, halvesAfter_succ, State.subkey]

/-- The counter one further, short of the sixteenth round (R28). -/
theorem val_succ_of_ne {n : Fin 16} (h : n ≠ 15) : (n + 1).val = n.val + 1 :=
  Fin.val_add_one_of_lt (Fin.lt_last_iff_ne_last.mpr h)

/-- The items about data are kept by every edge, for the work after it. -/
theorem dataInv_step (control : ControlInv s) (inv : DataInv w s) (h : step s = .next t) : DataInv (w.next s) t := by
  cases stepEffect_of_step h with
  | reset => exact (dataInv_reset _).withInputs _
  | refuse acc e =>
    obtain ⟨-, idle, -⟩ := accepts_iff.mp acc
    rw [Work.next_of_refused acc h]
    exact dataInv_of_idle idle inv.keySet
  | answerSubkey acc _ ignored idx data cmd =>
    obtain ⟨-, idle, -⟩ := accepts_iff.mp acc
    obtain ⟨-, -, -, rdk⟩ := Work.next_of_accepted (w := w) acc
    rw [rdk ignored idx data cmd]
    exact dataInv_of_idle idle inv.keySet
  | loadBlock acc key dir block cmd =>
    rw [Work.next_of_loadBlock acc key cmd]
    exact dataInv_of_rnd rfl inv.keySet rfl rfl
  | loadKey acc key cmd =>
    obtain ⟨-, -, derive, -⟩ := Work.next_of_accepted (w := w) acc
    rw [derive key cmd]
    exact dataInv_of_ks rfl rfl rfl fun i lt => absurd lt (Fin.not_lt_zero i)
  | hold _ _ quiet =>
    rw [Work.next_of_not_accepted (by simp [accepts, quiet])]
    exact inv.withInputs _
  | keyRound _ ks cnt cd rotated =>
    rw [Work.next_of_busy (by simp [ks])]
    rw [inv.rotated ks] at rotated
    subst rotated
    have next := val_succ_of_ne cnt
    refine dataInv_of_ks rfl (control.inKs ks).1 (congrArg (keyHalves w.key) next.symm) fun i lt => ?_
    have within : i.val < s.cnt.val + 1 := next ▸ lt
    exact inv.derived_succ ks (Nat.le_of_lt_succ within)
  | lastKeyRound _ ks cnt cd rotated =>
    rw [Work.next_of_busy (by simp [ks])]
    rw [inv.rotated ks] at rotated
    subst rotated
    refine dataInv_of_idle rfl fun _ => RoundKeySet.ext_subkeys fun i => ?_
    rw [subkeyAt_keySchedule]
    exact inv.derived_succ ks (by omega)
  | blockRound _ rnd cnt =>
    rw [Work.next_of_busy (by simp [rnd]), inv.round rnd]
    obtain ⟨dir, -⟩ := inv.inRnd rnd
    exact dataInv_of_rnd rfl inv.keySet dir
      (congrArg (halvesAfter s.rk w.dir (initialHalves w.block)) (val_succ_of_ne cnt).symm)
  | lastBlockRound _ rnd cnt =>
    rw [Work.next_of_busy (by simp [rnd]), inv.round rnd, cnt]
    obtain ⟨dir, -⟩ := inv.inRnd rnd
    exact dataInv_of_fin rfl inv.keySet dir rfl
  | finish _ fin =>
    rw [Work.next_of_busy (by simp [fin])]
    exact dataInv_of_idle rfl inv.keySet

/-- The FIN step answers with the transform of the work (R179). -/
theorem response_of_fin_step (inv : Inv w s) (h : step s = .next t) (fin : s.ph = .fin)
    (rst : s.sampled.rst = false) :
    t.rspValid = true ∧ t.rspErr = .ok ∧ t.rspData = transform w.block (keySchedule w.key) w.dir := by
  obtain ⟨key, -, ok, -⟩ := inv.control.inTransform (.inr fin)
  obtain ⟨-, halves⟩ := inv.data.inFin fin
  rw [inv.data.keySet key] at halves
  cases (step_of_fin rst fin).symm.trans h
  exact ⟨rfl, ok, congrArg finalBlock halves⟩

/-- Settles O42: the items about control, the items about data, and the answer of the FIN step. -/
theorem invariantIsKept : Obligations.InvariantIsKept := fun _ _ _ inv h =>
  ⟨⟨controlInvariantIsKept _ _ inv.control h, dataInv_step inv.control inv.data h⟩, Work.next_of_busy,
    response_of_fin_step inv h⟩

end Sys2Proof
end
